-- ==== Sys2Proof/Word.lean ====
section
/-! DEFINITION. The two word types of the machine (00_scope.md R6): every general register, every memory
access and every immediate is 8 bits; PC, SP, the register pairs and every address are 16 bits. -/

namespace Sys2Proof

/-- 8 bits: a register, a byte of memory, an 8-bit immediate (R6). -/
abbrev Byte := BitVec 8

/-- 16 bits: PC, SP, a register pair, an address, a 16-bit immediate (R6). -/
abbrev Word := BitVec 16

end Sys2Proof
end

