-- ==== Sys2Proof/Machine/Bits.lean ====
section
/-! DEFINITION. Byte order and extension of 00_scope.md R8, R9: the halves of a 16-bit value, their joining, and
sign extension of a displacement. -/

namespace Sys2Proof.Machine

/-- `v[15:8]` (R8). -/
def hiByte (v : Word) : Byte := v.extractLsb' 8 8

/-- `v[7:0]` (R8). -/
def loByte (v : Word) : Byte := v.extractLsb' 0 8

/-- `hi:lo` (R8): the 16-bit value `(hi << 8) | lo`. -/
def join (hi lo : Byte) : Word := (hi.setWidth 16 <<< 8) ||| lo.setWidth 16

/-- `zext_16` (R9). -/
def zext16 (v : Byte) : Word := v.setWidth 16

/-- `sext_16` (R9): `v` if `v < 0x80`, else `v + 0xFF00`. -/
def sext16 (v : Byte) : Word := if v.toNat < 0x80 then zext16 v else zext16 v + 0xFF00

/-- `bit(c)` (R8) as a byte. -/
def bitByte (c : Bool) : Byte := if c then 1 else 0

end Sys2Proof.Machine
end

