-- ==== Sys2Proof/Syntax.lean ====
section
/-! DEFINITION. The instruction set as data: the operand names of 30_encoding.md R146 to R151 and one constructor of
`Instr` for each of the 512 rows of spec/opcode_table.json (R153, R154). A constructor is named after its row: the
mnemonic in small letters, then the operands, `mX` for a memory operand `[X]` and `inc`/`dec` for `+`/`-`
(`LD [HL+],A` is `ld_mHLinc_A`). An immediate is the constructor's argument. -/

namespace Sys2Proof

/-- The 8-bit registers of the `r` field (R146; field value 6 is `[HL]`, a separate form). -/
inductive Reg8 where
  | b | c | d | e | h | l | a
  deriving DecidableEq, Repr

/-- The pairs of the `rr` field (R147). -/
inductive Pair where
  | bc | de | hl | sp
  deriving DecidableEq, Repr

/-- The pairs of the `qq` field, PUSH and POP (R148). -/
inductive StackPair where
  | bc | de | hl | af
  deriving DecidableEq, Repr

/-- The conditions of the `cc` field (R149). -/
inductive Cond where
  | nz | z | nc | c
  deriving DecidableEq, Repr

/-- The ALU operations (R150). -/
inductive AluOp where
  | add | adc | sub | sbc | and | xor | or | cp
  deriving DecidableEq, Repr

/-- The rotate and shift operations (R151). -/
inductive ShiftOp where
  | rlc | rrc | rl | rr | sla | sra | swap | srl
  deriving DecidableEq, Repr

/-- One constructor per row of spec/opcode_table.json: first the rows with an operand byte, then the others, each in the
table's order. `stop` carries its second byte, which is
fetched and ignored (R399). `prefixCB` is the byte 0xCB alone (R141). -/
inductive Instr where
  /-- 01 `LD BC,d16` (R220) -/
  | ld_BC_d16 (d16 : Word)
  /-- 06 `LD B,d8` (R202) -/
  | ld_B_d8 (d8 : Byte)
  /-- 08 `LD [a16],SP` (R221) -/
  | ld_mA16_SP (a16 : Word)
  /-- 0E `LD C,d8` (R202) -/
  | ld_C_d8 (d8 : Byte)
  /-- 10 `STOP` (R399) -/
  | stop (n8 : Byte)
  /-- 11 `LD DE,d16` (R220) -/
  | ld_DE_d16 (d16 : Word)
  /-- 16 `LD D,d8` (R202) -/
  | ld_D_d8 (d8 : Byte)
  /-- 18 `JR s8` (R354) -/
  | jr_s8 (s8 : Byte)
  /-- 1E `LD E,d8` (R202) -/
  | ld_E_d8 (d8 : Byte)
  /-- 20 `JR NZ,s8` (R355) -/
  | jr_NZ_s8 (s8 : Byte)
  /-- 21 `LD HL,d16` (R220) -/
  | ld_HL_d16 (d16 : Word)
  /-- 26 `LD H,d8` (R202) -/
  | ld_H_d8 (d8 : Byte)
  /-- 28 `JR Z,s8` (R355) -/
  | jr_Z_s8 (s8 : Byte)
  /-- 2E `LD L,d8` (R202) -/
  | ld_L_d8 (d8 : Byte)
  /-- 30 `JR NC,s8` (R355) -/
  | jr_NC_s8 (s8 : Byte)
  /-- 31 `LD SP,d16` (R220) -/
  | ld_SP_d16 (d16 : Word)
  /-- 36 `LD [HL],d8` (R205) -/
  | ld_mHL_d8 (d8 : Byte)
  /-- 38 `JR C,s8` (R355) -/
  | jr_C_s8 (s8 : Byte)
  /-- 3E `LD A,d8` (R202) -/
  | ld_A_d8 (d8 : Byte)
  /-- C2 `JP NZ,a16` (R352) -/
  | jp_NZ_a16 (a16 : Word)
  /-- C3 `JP a16` (R351) -/
  | jp_a16 (a16 : Word)
  /-- C4 `CALL NZ,a16` (R357) -/
  | call_NZ_a16 (a16 : Word)
  /-- C6 `ADD A,d8` (R262) -/
  | add_A_d8 (d8 : Byte)
  /-- CA `JP Z,a16` (R352) -/
  | jp_Z_a16 (a16 : Word)
  /-- CC `CALL Z,a16` (R357) -/
  | call_Z_a16 (a16 : Word)
  /-- CD `CALL a16` (R356) -/
  | call_a16 (a16 : Word)
  /-- CE `ADC A,d8` (R265) -/
  | adc_A_d8 (d8 : Byte)
  /-- D2 `JP NC,a16` (R352) -/
  | jp_NC_a16 (a16 : Word)
  /-- D4 `CALL NC,a16` (R357) -/
  | call_NC_a16 (a16 : Word)
  /-- D6 `SUB d8` (R268) -/
  | sub_d8 (d8 : Byte)
  /-- DA `JP C,a16` (R352) -/
  | jp_C_a16 (a16 : Word)
  /-- DC `CALL C,a16` (R357) -/
  | call_C_a16 (a16 : Word)
  /-- DE `SBC A,d8` (R271) -/
  | sbc_A_d8 (d8 : Byte)
  /-- E0 `LDH [a8],A` (R215) -/
  | ldh_mA8_A (a8 : Byte)
  /-- E6 `AND d8` (R274) -/
  | and_d8 (d8 : Byte)
  /-- E8 `ADD SP,s8` (R291) -/
  | add_SP_s8 (s8 : Byte)
  /-- EA `LD [a16],A` (R211) -/
  | ld_mA16_A (a16 : Word)
  /-- EE `XOR d8` (R277) -/
  | xor_d8 (d8 : Byte)
  /-- F0 `LDH A,[a8]` (R214) -/
  | ldh_A_mA8 (a8 : Byte)
  /-- F6 `OR d8` (R280) -/
  | or_d8 (d8 : Byte)
  /-- F8 `LD HL,SP+s8` (R223) -/
  | ld_HL_SPs8 (s8 : Byte)
  /-- FA `LD A,[a16]` (R210) -/
  | ld_A_mA16 (a16 : Word)
  /-- FE `CP d8` (R283) -/
  | cp_d8 (d8 : Byte)
  /-- 00 `NOP` (R390) -/
  | nop
  /-- 02 `LD [BC],A` (R208) -/
  | ld_mBC_A
  /-- 03 `INC BC` (R289) -/
  | inc_BC
  /-- 04 `INC B` (R284) -/
  | inc_B
  /-- 05 `DEC B` (R286) -/
  | dec_B
  /-- 07 `RLCA` (R311) -/
  | rlca
  /-- 09 `ADD HL,BC` (R288) -/
  | add_HL_BC
  /-- 0A `LD A,[BC]` (R206) -/
  | ld_A_mBC
  /-- 0B `DEC BC` (R290) -/
  | dec_BC
  /-- 0C `INC C` (R284) -/
  | inc_C
  /-- 0D `DEC C` (R286) -/
  | dec_C
  /-- 0F `RRCA` (R312) -/
  | rrca
  /-- 12 `LD [DE],A` (R209) -/
  | ld_mDE_A
  /-- 13 `INC DE` (R289) -/
  | inc_DE
  /-- 14 `INC D` (R284) -/
  | inc_D
  /-- 15 `DEC D` (R286) -/
  | dec_D
  /-- 17 `RLA` (R313) -/
  | rla
  /-- 19 `ADD HL,DE` (R288) -/
  | add_HL_DE
  /-- 1A `LD A,[DE]` (R207) -/
  | ld_A_mDE
  /-- 1B `DEC DE` (R290) -/
  | dec_DE
  /-- 1C `INC E` (R284) -/
  | inc_E
  /-- 1D `DEC E` (R286) -/
  | dec_E
  /-- 1F `RRA` (R314) -/
  | rra
  /-- 22 `LD [HL+],A` (R218) -/
  | ld_mHLinc_A
  /-- 23 `INC HL` (R289) -/
  | inc_HL
  /-- 24 `INC H` (R284) -/
  | inc_H
  /-- 25 `DEC H` (R286) -/
  | dec_H
  /-- 27 `DAA` (R391) -/
  | daa
  /-- 29 `ADD HL,HL` (R288) -/
  | add_HL_HL
  /-- 2A `LD A,[HL+]` (R216) -/
  | ld_A_mHLinc
  /-- 2B `DEC HL` (R290) -/
  | dec_HL
  /-- 2C `INC L` (R284) -/
  | inc_L
  /-- 2D `DEC L` (R286) -/
  | dec_L
  /-- 2F `CPL` (R392) -/
  | cpl
  /-- 32 `LD [HL-],A` (R219) -/
  | ld_mHLdec_A
  /-- 33 `INC SP` (R289) -/
  | inc_SP
  /-- 34 `INC [HL]` (R285) -/
  | inc_mHL
  /-- 35 `DEC [HL]` (R287) -/
  | dec_mHL
  /-- 37 `SCF` (R393) -/
  | scf
  /-- 39 `ADD HL,SP` (R288) -/
  | add_HL_SP
  /-- 3A `LD A,[HL-]` (R217) -/
  | ld_A_mHLdec
  /-- 3B `DEC SP` (R290) -/
  | dec_SP
  /-- 3C `INC A` (R284) -/
  | inc_A
  /-- 3D `DEC A` (R286) -/
  | dec_A
  /-- 3F `CCF` (R394) -/
  | ccf
  /-- 40 `LD B,B` (R201) -/
  | ld_B_B
  /-- 41 `LD B,C` (R201) -/
  | ld_B_C
  /-- 42 `LD B,D` (R201) -/
  | ld_B_D
  /-- 43 `LD B,E` (R201) -/
  | ld_B_E
  /-- 44 `LD B,H` (R201) -/
  | ld_B_H
  /-- 45 `LD B,L` (R201) -/
  | ld_B_L
  /-- 46 `LD B,[HL]` (R203) -/
  | ld_B_mHL
  /-- 47 `LD B,A` (R201) -/
  | ld_B_A
  /-- 48 `LD C,B` (R201) -/
  | ld_C_B
  /-- 49 `LD C,C` (R201) -/
  | ld_C_C
  /-- 4A `LD C,D` (R201) -/
  | ld_C_D
  /-- 4B `LD C,E` (R201) -/
  | ld_C_E
  /-- 4C `LD C,H` (R201) -/
  | ld_C_H
  /-- 4D `LD C,L` (R201) -/
  | ld_C_L
  /-- 4E `LD C,[HL]` (R203) -/
  | ld_C_mHL
  /-- 4F `LD C,A` (R201) -/
  | ld_C_A
  /-- 50 `LD D,B` (R201) -/
  | ld_D_B
  /-- 51 `LD D,C` (R201) -/
  | ld_D_C
  /-- 52 `LD D,D` (R201) -/
  | ld_D_D
  /-- 53 `LD D,E` (R201) -/
  | ld_D_E
  /-- 54 `LD D,H` (R201) -/
  | ld_D_H
  /-- 55 `LD D,L` (R201) -/
  | ld_D_L
  /-- 56 `LD D,[HL]` (R203) -/
  | ld_D_mHL
  /-- 57 `LD D,A` (R201) -/
  | ld_D_A
  /-- 58 `LD E,B` (R201) -/
  | ld_E_B
  /-- 59 `LD E,C` (R201) -/
  | ld_E_C
  /-- 5A `LD E,D` (R201) -/
  | ld_E_D
  /-- 5B `LD E,E` (R201) -/
  | ld_E_E
  /-- 5C `LD E,H` (R201) -/
  | ld_E_H
  /-- 5D `LD E,L` (R201) -/
  | ld_E_L
  /-- 5E `LD E,[HL]` (R203) -/
  | ld_E_mHL
  /-- 5F `LD E,A` (R201) -/
  | ld_E_A
  /-- 60 `LD H,B` (R201) -/
  | ld_H_B
  /-- 61 `LD H,C` (R201) -/
  | ld_H_C
  /-- 62 `LD H,D` (R201) -/
  | ld_H_D
  /-- 63 `LD H,E` (R201) -/
  | ld_H_E
  /-- 64 `LD H,H` (R201) -/
  | ld_H_H
  /-- 65 `LD H,L` (R201) -/
  | ld_H_L
  /-- 66 `LD H,[HL]` (R203) -/
  | ld_H_mHL
  /-- 67 `LD H,A` (R201) -/
  | ld_H_A
  /-- 68 `LD L,B` (R201) -/
  | ld_L_B
  /-- 69 `LD L,C` (R201) -/
  | ld_L_C
  /-- 6A `LD L,D` (R201) -/
  | ld_L_D
  /-- 6B `LD L,E` (R201) -/
  | ld_L_E
  /-- 6C `LD L,H` (R201) -/
  | ld_L_H
  /-- 6D `LD L,L` (R201) -/
  | ld_L_L
  /-- 6E `LD L,[HL]` (R203) -/
  | ld_L_mHL
  /-- 6F `LD L,A` (R201) -/
  | ld_L_A
  /-- 70 `LD [HL],B` (R204) -/
  | ld_mHL_B
  /-- 71 `LD [HL],C` (R204) -/
  | ld_mHL_C
  /-- 72 `LD [HL],D` (R204) -/
  | ld_mHL_D
  /-- 73 `LD [HL],E` (R204) -/
  | ld_mHL_E
  /-- 74 `LD [HL],H` (R204) -/
  | ld_mHL_H
  /-- 75 `LD [HL],L` (R204) -/
  | ld_mHL_L
  /-- 76 `HALT` (R398) -/
  | halt
  /-- 77 `LD [HL],A` (R204) -/
  | ld_mHL_A
  /-- 78 `LD A,B` (R201) -/
  | ld_A_B
  /-- 79 `LD A,C` (R201) -/
  | ld_A_C
  /-- 7A `LD A,D` (R201) -/
  | ld_A_D
  /-- 7B `LD A,E` (R201) -/
  | ld_A_E
  /-- 7C `LD A,H` (R201) -/
  | ld_A_H
  /-- 7D `LD A,L` (R201) -/
  | ld_A_L
  /-- 7E `LD A,[HL]` (R203) -/
  | ld_A_mHL
  /-- 7F `LD A,A` (R201) -/
  | ld_A_A
  /-- 80 `ADD A,B` (R260) -/
  | add_A_B
  /-- 81 `ADD A,C` (R260) -/
  | add_A_C
  /-- 82 `ADD A,D` (R260) -/
  | add_A_D
  /-- 83 `ADD A,E` (R260) -/
  | add_A_E
  /-- 84 `ADD A,H` (R260) -/
  | add_A_H
  /-- 85 `ADD A,L` (R260) -/
  | add_A_L
  /-- 86 `ADD A,[HL]` (R261) -/
  | add_A_mHL
  /-- 87 `ADD A,A` (R260) -/
  | add_A_A
  /-- 88 `ADC A,B` (R263) -/
  | adc_A_B
  /-- 89 `ADC A,C` (R263) -/
  | adc_A_C
  /-- 8A `ADC A,D` (R263) -/
  | adc_A_D
  /-- 8B `ADC A,E` (R263) -/
  | adc_A_E
  /-- 8C `ADC A,H` (R263) -/
  | adc_A_H
  /-- 8D `ADC A,L` (R263) -/
  | adc_A_L
  /-- 8E `ADC A,[HL]` (R264) -/
  | adc_A_mHL
  /-- 8F `ADC A,A` (R263) -/
  | adc_A_A
  /-- 90 `SUB B` (R266) -/
  | sub_B
  /-- 91 `SUB C` (R266) -/
  | sub_C
  /-- 92 `SUB D` (R266) -/
  | sub_D
  /-- 93 `SUB E` (R266) -/
  | sub_E
  /-- 94 `SUB H` (R266) -/
  | sub_H
  /-- 95 `SUB L` (R266) -/
  | sub_L
  /-- 96 `SUB [HL]` (R267) -/
  | sub_mHL
  /-- 97 `SUB A` (R266) -/
  | sub_A
  /-- 98 `SBC A,B` (R269) -/
  | sbc_A_B
  /-- 99 `SBC A,C` (R269) -/
  | sbc_A_C
  /-- 9A `SBC A,D` (R269) -/
  | sbc_A_D
  /-- 9B `SBC A,E` (R269) -/
  | sbc_A_E
  /-- 9C `SBC A,H` (R269) -/
  | sbc_A_H
  /-- 9D `SBC A,L` (R269) -/
  | sbc_A_L
  /-- 9E `SBC A,[HL]` (R270) -/
  | sbc_A_mHL
  /-- 9F `SBC A,A` (R269) -/
  | sbc_A_A
  /-- A0 `AND B` (R272) -/
  | and_B
  /-- A1 `AND C` (R272) -/
  | and_C
  /-- A2 `AND D` (R272) -/
  | and_D
  /-- A3 `AND E` (R272) -/
  | and_E
  /-- A4 `AND H` (R272) -/
  | and_H
  /-- A5 `AND L` (R272) -/
  | and_L
  /-- A6 `AND [HL]` (R273) -/
  | and_mHL
  /-- A7 `AND A` (R272) -/
  | and_A
  /-- A8 `XOR B` (R275) -/
  | xor_B
  /-- A9 `XOR C` (R275) -/
  | xor_C
  /-- AA `XOR D` (R275) -/
  | xor_D
  /-- AB `XOR E` (R275) -/
  | xor_E
  /-- AC `XOR H` (R275) -/
  | xor_H
  /-- AD `XOR L` (R275) -/
  | xor_L
  /-- AE `XOR [HL]` (R276) -/
  | xor_mHL
  /-- AF `XOR A` (R275) -/
  | xor_A
  /-- B0 `OR B` (R278) -/
  | or_B
  /-- B1 `OR C` (R278) -/
  | or_C
  /-- B2 `OR D` (R278) -/
  | or_D
  /-- B3 `OR E` (R278) -/
  | or_E
  /-- B4 `OR H` (R278) -/
  | or_H
  /-- B5 `OR L` (R278) -/
  | or_L
  /-- B6 `OR [HL]` (R279) -/
  | or_mHL
  /-- B7 `OR A` (R278) -/
  | or_A
  /-- B8 `CP B` (R281) -/
  | cp_B
  /-- B9 `CP C` (R281) -/
  | cp_C
  /-- BA `CP D` (R281) -/
  | cp_D
  /-- BB `CP E` (R281) -/
  | cp_E
  /-- BC `CP H` (R281) -/
  | cp_H
  /-- BD `CP L` (R281) -/
  | cp_L
  /-- BE `CP [HL]` (R282) -/
  | cp_mHL
  /-- BF `CP A` (R281) -/
  | cp_A
  /-- C0 `RET NZ` (R359) -/
  | ret_NZ
  /-- C1 `POP BC` (R225) -/
  | pop_BC
  /-- C5 `PUSH BC` (R224) -/
  | push_BC
  /-- C7 `RST 0x00` (R366) -/
  | rst_00
  /-- C8 `RET Z` (R359) -/
  | ret_Z
  /-- C9 `RET` (R358) -/
  | ret
  /-- CB `PREFIX CB` (R140) -/
  | prefixCB
  /-- CF `RST 0x08` (R366) -/
  | rst_08
  /-- D0 `RET NC` (R359) -/
  | ret_NC
  /-- D1 `POP DE` (R225) -/
  | pop_DE
  /-- D3 `ILLEGAL` (R400) -/
  | illegal_D3
  /-- D5 `PUSH DE` (R224) -/
  | push_DE
  /-- D7 `RST 0x10` (R366) -/
  | rst_10
  /-- D8 `RET C` (R359) -/
  | ret_C
  /-- D9 `RETI` (R362) -/
  | reti
  /-- DB `ILLEGAL` (R400) -/
  | illegal_DB
  /-- DD `ILLEGAL` (R400) -/
  | illegal_DD
  /-- DF `RST 0x18` (R366) -/
  | rst_18
  /-- E1 `POP HL` (R225) -/
  | pop_HL
  /-- E2 `LDH [C],A` (R213) -/
  | ldh_mC_A
  /-- E3 `ILLEGAL` (R400) -/
  | illegal_E3
  /-- E4 `ILLEGAL` (R400) -/
  | illegal_E4
  /-- E5 `PUSH HL` (R224) -/
  | push_HL
  /-- E7 `RST 0x20` (R366) -/
  | rst_20
  /-- E9 `JP HL` (R353) -/
  | jp_HL
  /-- EB `ILLEGAL` (R400) -/
  | illegal_EB
  /-- EC `ILLEGAL` (R400) -/
  | illegal_EC
  /-- ED `ILLEGAL` (R400) -/
  | illegal_ED
  /-- EF `RST 0x28` (R366) -/
  | rst_28
  /-- F1 `POP AF` (R226) -/
  | pop_AF
  /-- F2 `LDH A,[C]` (R212) -/
  | ldh_A_mC
  /-- F3 `DI` (R397) -/
  | di
  /-- F4 `ILLEGAL` (R400) -/
  | illegal_F4
  /-- F5 `PUSH AF` (R224) -/
  | push_AF
  /-- F7 `RST 0x30` (R366) -/
  | rst_30
  /-- F9 `LD SP,HL` (R222) -/
  | ld_SP_HL
  /-- FB `EI` (R396) -/
  | ei
  /-- FC `ILLEGAL` (R400) -/
  | illegal_FC
  /-- FD `ILLEGAL` (R400) -/
  | illegal_FD
  /-- FF `RST 0x38` (R366) -/
  | rst_38
  /-- CB 00 `RLC B` (R315) -/
  | rlc_B
  /-- CB 01 `RLC C` (R315) -/
  | rlc_C
  /-- CB 02 `RLC D` (R315) -/
  | rlc_D
  /-- CB 03 `RLC E` (R315) -/
  | rlc_E
  /-- CB 04 `RLC H` (R315) -/
  | rlc_H
  /-- CB 05 `RLC L` (R315) -/
  | rlc_L
  /-- CB 06 `RLC [HL]` (R316) -/
  | rlc_mHL
  /-- CB 07 `RLC A` (R315) -/
  | rlc_A
  /-- CB 08 `RRC B` (R317) -/
  | rrc_B
  /-- CB 09 `RRC C` (R317) -/
  | rrc_C
  /-- CB 0A `RRC D` (R317) -/
  | rrc_D
  /-- CB 0B `RRC E` (R317) -/
  | rrc_E
  /-- CB 0C `RRC H` (R317) -/
  | rrc_H
  /-- CB 0D `RRC L` (R317) -/
  | rrc_L
  /-- CB 0E `RRC [HL]` (R318) -/
  | rrc_mHL
  /-- CB 0F `RRC A` (R317) -/
  | rrc_A
  /-- CB 10 `RL B` (R319) -/
  | rl_B
  /-- CB 11 `RL C` (R319) -/
  | rl_C
  /-- CB 12 `RL D` (R319) -/
  | rl_D
  /-- CB 13 `RL E` (R319) -/
  | rl_E
  /-- CB 14 `RL H` (R319) -/
  | rl_H
  /-- CB 15 `RL L` (R319) -/
  | rl_L
  /-- CB 16 `RL [HL]` (R320) -/
  | rl_mHL
  /-- CB 17 `RL A` (R319) -/
  | rl_A
  /-- CB 18 `RR B` (R321) -/
  | rr_B
  /-- CB 19 `RR C` (R321) -/
  | rr_C
  /-- CB 1A `RR D` (R321) -/
  | rr_D
  /-- CB 1B `RR E` (R321) -/
  | rr_E
  /-- CB 1C `RR H` (R321) -/
  | rr_H
  /-- CB 1D `RR L` (R321) -/
  | rr_L
  /-- CB 1E `RR [HL]` (R322) -/
  | rr_mHL
  /-- CB 1F `RR A` (R321) -/
  | rr_A
  /-- CB 20 `SLA B` (R323) -/
  | sla_B
  /-- CB 21 `SLA C` (R323) -/
  | sla_C
  /-- CB 22 `SLA D` (R323) -/
  | sla_D
  /-- CB 23 `SLA E` (R323) -/
  | sla_E
  /-- CB 24 `SLA H` (R323) -/
  | sla_H
  /-- CB 25 `SLA L` (R323) -/
  | sla_L
  /-- CB 26 `SLA [HL]` (R324) -/
  | sla_mHL
  /-- CB 27 `SLA A` (R323) -/
  | sla_A
  /-- CB 28 `SRA B` (R325) -/
  | sra_B
  /-- CB 29 `SRA C` (R325) -/
  | sra_C
  /-- CB 2A `SRA D` (R325) -/
  | sra_D
  /-- CB 2B `SRA E` (R325) -/
  | sra_E
  /-- CB 2C `SRA H` (R325) -/
  | sra_H
  /-- CB 2D `SRA L` (R325) -/
  | sra_L
  /-- CB 2E `SRA [HL]` (R326) -/
  | sra_mHL
  /-- CB 2F `SRA A` (R325) -/
  | sra_A
  /-- CB 30 `SWAP B` (R327) -/
  | swap_B
  /-- CB 31 `SWAP C` (R327) -/
  | swap_C
  /-- CB 32 `SWAP D` (R327) -/
  | swap_D
  /-- CB 33 `SWAP E` (R327) -/
  | swap_E
  /-- CB 34 `SWAP H` (R327) -/
  | swap_H
  /-- CB 35 `SWAP L` (R327) -/
  | swap_L
  /-- CB 36 `SWAP [HL]` (R328) -/
  | swap_mHL
  /-- CB 37 `SWAP A` (R327) -/
  | swap_A
  /-- CB 38 `SRL B` (R329) -/
  | srl_B
  /-- CB 39 `SRL C` (R329) -/
  | srl_C
  /-- CB 3A `SRL D` (R329) -/
  | srl_D
  /-- CB 3B `SRL E` (R329) -/
  | srl_E
  /-- CB 3C `SRL H` (R329) -/
  | srl_H
  /-- CB 3D `SRL L` (R329) -/
  | srl_L
  /-- CB 3E `SRL [HL]` (R330) -/
  | srl_mHL
  /-- CB 3F `SRL A` (R329) -/
  | srl_A
  /-- CB 40 `BIT 0,B` (R331) -/
  | bit_0_B
  /-- CB 41 `BIT 0,C` (R331) -/
  | bit_0_C
  /-- CB 42 `BIT 0,D` (R331) -/
  | bit_0_D
  /-- CB 43 `BIT 0,E` (R331) -/
  | bit_0_E
  /-- CB 44 `BIT 0,H` (R331) -/
  | bit_0_H
  /-- CB 45 `BIT 0,L` (R331) -/
  | bit_0_L
  /-- CB 46 `BIT 0,[HL]` (R332) -/
  | bit_0_mHL
  /-- CB 47 `BIT 0,A` (R331) -/
  | bit_0_A
  /-- CB 48 `BIT 1,B` (R331) -/
  | bit_1_B
  /-- CB 49 `BIT 1,C` (R331) -/
  | bit_1_C
  /-- CB 4A `BIT 1,D` (R331) -/
  | bit_1_D
  /-- CB 4B `BIT 1,E` (R331) -/
  | bit_1_E
  /-- CB 4C `BIT 1,H` (R331) -/
  | bit_1_H
  /-- CB 4D `BIT 1,L` (R331) -/
  | bit_1_L
  /-- CB 4E `BIT 1,[HL]` (R332) -/
  | bit_1_mHL
  /-- CB 4F `BIT 1,A` (R331) -/
  | bit_1_A
  /-- CB 50 `BIT 2,B` (R331) -/
  | bit_2_B
  /-- CB 51 `BIT 2,C` (R331) -/
  | bit_2_C
  /-- CB 52 `BIT 2,D` (R331) -/
  | bit_2_D
  /-- CB 53 `BIT 2,E` (R331) -/
  | bit_2_E
  /-- CB 54 `BIT 2,H` (R331) -/
  | bit_2_H
  /-- CB 55 `BIT 2,L` (R331) -/
  | bit_2_L
  /-- CB 56 `BIT 2,[HL]` (R332) -/
  | bit_2_mHL
  /-- CB 57 `BIT 2,A` (R331) -/
  | bit_2_A
  /-- CB 58 `BIT 3,B` (R331) -/
  | bit_3_B
  /-- CB 59 `BIT 3,C` (R331) -/
  | bit_3_C
  /-- CB 5A `BIT 3,D` (R331) -/
  | bit_3_D
  /-- CB 5B `BIT 3,E` (R331) -/
  | bit_3_E
  /-- CB 5C `BIT 3,H` (R331) -/
  | bit_3_H
  /-- CB 5D `BIT 3,L` (R331) -/
  | bit_3_L
  /-- CB 5E `BIT 3,[HL]` (R332) -/
  | bit_3_mHL
  /-- CB 5F `BIT 3,A` (R331) -/
  | bit_3_A
  /-- CB 60 `BIT 4,B` (R331) -/
  | bit_4_B
  /-- CB 61 `BIT 4,C` (R331) -/
  | bit_4_C
  /-- CB 62 `BIT 4,D` (R331) -/
  | bit_4_D
  /-- CB 63 `BIT 4,E` (R331) -/
  | bit_4_E
  /-- CB 64 `BIT 4,H` (R331) -/
  | bit_4_H
  /-- CB 65 `BIT 4,L` (R331) -/
  | bit_4_L
  /-- CB 66 `BIT 4,[HL]` (R332) -/
  | bit_4_mHL
  /-- CB 67 `BIT 4,A` (R331) -/
  | bit_4_A
  /-- CB 68 `BIT 5,B` (R331) -/
  | bit_5_B
  /-- CB 69 `BIT 5,C` (R331) -/
  | bit_5_C
  /-- CB 6A `BIT 5,D` (R331) -/
  | bit_5_D
  /-- CB 6B `BIT 5,E` (R331) -/
  | bit_5_E
  /-- CB 6C `BIT 5,H` (R331) -/
  | bit_5_H
  /-- CB 6D `BIT 5,L` (R331) -/
  | bit_5_L
  /-- CB 6E `BIT 5,[HL]` (R332) -/
  | bit_5_mHL
  /-- CB 6F `BIT 5,A` (R331) -/
  | bit_5_A
  /-- CB 70 `BIT 6,B` (R331) -/
  | bit_6_B
  /-- CB 71 `BIT 6,C` (R331) -/
  | bit_6_C
  /-- CB 72 `BIT 6,D` (R331) -/
  | bit_6_D
  /-- CB 73 `BIT 6,E` (R331) -/
  | bit_6_E
  /-- CB 74 `BIT 6,H` (R331) -/
  | bit_6_H
  /-- CB 75 `BIT 6,L` (R331) -/
  | bit_6_L
  /-- CB 76 `BIT 6,[HL]` (R332) -/
  | bit_6_mHL
  /-- CB 77 `BIT 6,A` (R331) -/
  | bit_6_A
  /-- CB 78 `BIT 7,B` (R331) -/
  | bit_7_B
  /-- CB 79 `BIT 7,C` (R331) -/
  | bit_7_C
  /-- CB 7A `BIT 7,D` (R331) -/
  | bit_7_D
  /-- CB 7B `BIT 7,E` (R331) -/
  | bit_7_E
  /-- CB 7C `BIT 7,H` (R331) -/
  | bit_7_H
  /-- CB 7D `BIT 7,L` (R331) -/
  | bit_7_L
  /-- CB 7E `BIT 7,[HL]` (R332) -/
  | bit_7_mHL
  /-- CB 7F `BIT 7,A` (R331) -/
  | bit_7_A
  /-- CB 80 `RES 0,B` (R333) -/
  | res_0_B
  /-- CB 81 `RES 0,C` (R333) -/
  | res_0_C
  /-- CB 82 `RES 0,D` (R333) -/
  | res_0_D
  /-- CB 83 `RES 0,E` (R333) -/
  | res_0_E
  /-- CB 84 `RES 0,H` (R333) -/
  | res_0_H
  /-- CB 85 `RES 0,L` (R333) -/
  | res_0_L
  /-- CB 86 `RES 0,[HL]` (R334) -/
  | res_0_mHL
  /-- CB 87 `RES 0,A` (R333) -/
  | res_0_A
  /-- CB 88 `RES 1,B` (R333) -/
  | res_1_B
  /-- CB 89 `RES 1,C` (R333) -/
  | res_1_C
  /-- CB 8A `RES 1,D` (R333) -/
  | res_1_D
  /-- CB 8B `RES 1,E` (R333) -/
  | res_1_E
  /-- CB 8C `RES 1,H` (R333) -/
  | res_1_H
  /-- CB 8D `RES 1,L` (R333) -/
  | res_1_L
  /-- CB 8E `RES 1,[HL]` (R334) -/
  | res_1_mHL
  /-- CB 8F `RES 1,A` (R333) -/
  | res_1_A
  /-- CB 90 `RES 2,B` (R333) -/
  | res_2_B
  /-- CB 91 `RES 2,C` (R333) -/
  | res_2_C
  /-- CB 92 `RES 2,D` (R333) -/
  | res_2_D
  /-- CB 93 `RES 2,E` (R333) -/
  | res_2_E
  /-- CB 94 `RES 2,H` (R333) -/
  | res_2_H
  /-- CB 95 `RES 2,L` (R333) -/
  | res_2_L
  /-- CB 96 `RES 2,[HL]` (R334) -/
  | res_2_mHL
  /-- CB 97 `RES 2,A` (R333) -/
  | res_2_A
  /-- CB 98 `RES 3,B` (R333) -/
  | res_3_B
  /-- CB 99 `RES 3,C` (R333) -/
  | res_3_C
  /-- CB 9A `RES 3,D` (R333) -/
  | res_3_D
  /-- CB 9B `RES 3,E` (R333) -/
  | res_3_E
  /-- CB 9C `RES 3,H` (R333) -/
  | res_3_H
  /-- CB 9D `RES 3,L` (R333) -/
  | res_3_L
  /-- CB 9E `RES 3,[HL]` (R334) -/
  | res_3_mHL
  /-- CB 9F `RES 3,A` (R333) -/
  | res_3_A
  /-- CB A0 `RES 4,B` (R333) -/
  | res_4_B
  /-- CB A1 `RES 4,C` (R333) -/
  | res_4_C
  /-- CB A2 `RES 4,D` (R333) -/
  | res_4_D
  /-- CB A3 `RES 4,E` (R333) -/
  | res_4_E
  /-- CB A4 `RES 4,H` (R333) -/
  | res_4_H
  /-- CB A5 `RES 4,L` (R333) -/
  | res_4_L
  /-- CB A6 `RES 4,[HL]` (R334) -/
  | res_4_mHL
  /-- CB A7 `RES 4,A` (R333) -/
  | res_4_A
  /-- CB A8 `RES 5,B` (R333) -/
  | res_5_B
  /-- CB A9 `RES 5,C` (R333) -/
  | res_5_C
  /-- CB AA `RES 5,D` (R333) -/
  | res_5_D
  /-- CB AB `RES 5,E` (R333) -/
  | res_5_E
  /-- CB AC `RES 5,H` (R333) -/
  | res_5_H
  /-- CB AD `RES 5,L` (R333) -/
  | res_5_L
  /-- CB AE `RES 5,[HL]` (R334) -/
  | res_5_mHL
  /-- CB AF `RES 5,A` (R333) -/
  | res_5_A
  /-- CB B0 `RES 6,B` (R333) -/
  | res_6_B
  /-- CB B1 `RES 6,C` (R333) -/
  | res_6_C
  /-- CB B2 `RES 6,D` (R333) -/
  | res_6_D
  /-- CB B3 `RES 6,E` (R333) -/
  | res_6_E
  /-- CB B4 `RES 6,H` (R333) -/
  | res_6_H
  /-- CB B5 `RES 6,L` (R333) -/
  | res_6_L
  /-- CB B6 `RES 6,[HL]` (R334) -/
  | res_6_mHL
  /-- CB B7 `RES 6,A` (R333) -/
  | res_6_A
  /-- CB B8 `RES 7,B` (R333) -/
  | res_7_B
  /-- CB B9 `RES 7,C` (R333) -/
  | res_7_C
  /-- CB BA `RES 7,D` (R333) -/
  | res_7_D
  /-- CB BB `RES 7,E` (R333) -/
  | res_7_E
  /-- CB BC `RES 7,H` (R333) -/
  | res_7_H
  /-- CB BD `RES 7,L` (R333) -/
  | res_7_L
  /-- CB BE `RES 7,[HL]` (R334) -/
  | res_7_mHL
  /-- CB BF `RES 7,A` (R333) -/
  | res_7_A
  /-- CB C0 `SET 0,B` (R335) -/
  | set_0_B
  /-- CB C1 `SET 0,C` (R335) -/
  | set_0_C
  /-- CB C2 `SET 0,D` (R335) -/
  | set_0_D
  /-- CB C3 `SET 0,E` (R335) -/
  | set_0_E
  /-- CB C4 `SET 0,H` (R335) -/
  | set_0_H
  /-- CB C5 `SET 0,L` (R335) -/
  | set_0_L
  /-- CB C6 `SET 0,[HL]` (R336) -/
  | set_0_mHL
  /-- CB C7 `SET 0,A` (R335) -/
  | set_0_A
  /-- CB C8 `SET 1,B` (R335) -/
  | set_1_B
  /-- CB C9 `SET 1,C` (R335) -/
  | set_1_C
  /-- CB CA `SET 1,D` (R335) -/
  | set_1_D
  /-- CB CB `SET 1,E` (R335) -/
  | set_1_E
  /-- CB CC `SET 1,H` (R335) -/
  | set_1_H
  /-- CB CD `SET 1,L` (R335) -/
  | set_1_L
  /-- CB CE `SET 1,[HL]` (R336) -/
  | set_1_mHL
  /-- CB CF `SET 1,A` (R335) -/
  | set_1_A
  /-- CB D0 `SET 2,B` (R335) -/
  | set_2_B
  /-- CB D1 `SET 2,C` (R335) -/
  | set_2_C
  /-- CB D2 `SET 2,D` (R335) -/
  | set_2_D
  /-- CB D3 `SET 2,E` (R335) -/
  | set_2_E
  /-- CB D4 `SET 2,H` (R335) -/
  | set_2_H
  /-- CB D5 `SET 2,L` (R335) -/
  | set_2_L
  /-- CB D6 `SET 2,[HL]` (R336) -/
  | set_2_mHL
  /-- CB D7 `SET 2,A` (R335) -/
  | set_2_A
  /-- CB D8 `SET 3,B` (R335) -/
  | set_3_B
  /-- CB D9 `SET 3,C` (R335) -/
  | set_3_C
  /-- CB DA `SET 3,D` (R335) -/
  | set_3_D
  /-- CB DB `SET 3,E` (R335) -/
  | set_3_E
  /-- CB DC `SET 3,H` (R335) -/
  | set_3_H
  /-- CB DD `SET 3,L` (R335) -/
  | set_3_L
  /-- CB DE `SET 3,[HL]` (R336) -/
  | set_3_mHL
  /-- CB DF `SET 3,A` (R335) -/
  | set_3_A
  /-- CB E0 `SET 4,B` (R335) -/
  | set_4_B
  /-- CB E1 `SET 4,C` (R335) -/
  | set_4_C
  /-- CB E2 `SET 4,D` (R335) -/
  | set_4_D
  /-- CB E3 `SET 4,E` (R335) -/
  | set_4_E
  /-- CB E4 `SET 4,H` (R335) -/
  | set_4_H
  /-- CB E5 `SET 4,L` (R335) -/
  | set_4_L
  /-- CB E6 `SET 4,[HL]` (R336) -/
  | set_4_mHL
  /-- CB E7 `SET 4,A` (R335) -/
  | set_4_A
  /-- CB E8 `SET 5,B` (R335) -/
  | set_5_B
  /-- CB E9 `SET 5,C` (R335) -/
  | set_5_C
  /-- CB EA `SET 5,D` (R335) -/
  | set_5_D
  /-- CB EB `SET 5,E` (R335) -/
  | set_5_E
  /-- CB EC `SET 5,H` (R335) -/
  | set_5_H
  /-- CB ED `SET 5,L` (R335) -/
  | set_5_L
  /-- CB EE `SET 5,[HL]` (R336) -/
  | set_5_mHL
  /-- CB EF `SET 5,A` (R335) -/
  | set_5_A
  /-- CB F0 `SET 6,B` (R335) -/
  | set_6_B
  /-- CB F1 `SET 6,C` (R335) -/
  | set_6_C
  /-- CB F2 `SET 6,D` (R335) -/
  | set_6_D
  /-- CB F3 `SET 6,E` (R335) -/
  | set_6_E
  /-- CB F4 `SET 6,H` (R335) -/
  | set_6_H
  /-- CB F5 `SET 6,L` (R335) -/
  | set_6_L
  /-- CB F6 `SET 6,[HL]` (R336) -/
  | set_6_mHL
  /-- CB F7 `SET 6,A` (R335) -/
  | set_6_A
  /-- CB F8 `SET 7,B` (R335) -/
  | set_7_B
  /-- CB F9 `SET 7,C` (R335) -/
  | set_7_C
  /-- CB FA `SET 7,D` (R335) -/
  | set_7_D
  /-- CB FB `SET 7,E` (R335) -/
  | set_7_E
  /-- CB FC `SET 7,H` (R335) -/
  | set_7_H
  /-- CB FD `SET 7,L` (R335) -/
  | set_7_L
  /-- CB FE `SET 7,[HL]` (R336) -/
  | set_7_mHL
  /-- CB FF `SET 7,A` (R335) -/
  | set_7_A
  deriving DecidableEq, Repr

end Sys2Proof
end

