-- ==== Sys2Proof/Machine/Flags.lean ====
section
/-! DEFINITION. The flag-logic unit (41_arithmetic.md R250 to R256), the rotate and shift unit (42_bit_rotate.md R310), the
single-bit operations (R331 to R336) and the decimal adjustment (44_special.md R391), as pure functions. Sums and
comparisons are on unbounded naturals (00_scope.md R8). -/

namespace Sys2Proof.Machine

/-- An 8-bit result and the four flags the unit computes with it. -/
structure Res8 where
  value : Byte
  z : Bool
  n : Bool
  h : Bool
  c : Bool
  deriving DecidableEq, Repr

/-- `Add8(a, b, cin)` (R250). -/
def add8 (a b : Byte) (cin : Bool) : Res8 :=
  let sum := a.toNat + b.toNat + cin.toNat
  let value := BitVec.ofNat 8 sum
  { value
    z := value == 0
    n := false
    h := decide (a.toNat % 16 + b.toNat % 16 + cin.toNat > 0xF)
    c := decide (sum > 0xFF) }

/-- `Sub8(a, b, cin)` (R251). -/
def sub8 (a b : Byte) (cin : Bool) : Res8 :=
  let value := a - b - bitByte cin
  { value
    z := value == 0
    n := true
    h := decide (a.toNat % 16 < b.toNat % 16 + cin.toNat)
    c := decide (a.toNat < b.toNat + cin.toNat) }

/-- `And8(a, b)` (R252). -/
def and8 (a b : Byte) : Res8 := { value := a &&& b, z := (a &&& b) == 0, n := false, h := true, c := false }

/-- `Xor8(a, b)` (R252). -/
def xor8 (a b : Byte) : Res8 := { value := a ^^^ b, z := (a ^^^ b) == 0, n := false, h := false, c := false }

/-- `Or8(a, b)` (R252). -/
def or8 (a b : Byte) : Res8 := { value := a ||| b, z := (a ||| b) == 0, n := false, h := false, c := false }

/-- `Inc8(v)` (R253), with the old carry, which it does not produce. -/
def inc8 (v : Byte) (c : Bool) : Res8 :=
  { value := v + 1, z := v + 1 == 0, n := false, h := v &&& 0xF == 0xF, c }

/-- `Dec8(v)` (R253), with the old carry, which it does not produce. -/
def dec8 (v : Byte) (c : Bool) : Res8 :=
  { value := v - 1, z := v - 1 == 0, n := true, h := v &&& 0xF == 0x0, c }

/-- The ALU operation `op` on A and an operand, with the carry before the instruction (R150, R260 to R283). CP computes what
SUB computes (R281). -/
def alu (op : AluOp) (a v : Byte) (c : Bool) : Res8 :=
  match op with
  | .add => add8 a v false
  | .adc => add8 a v c
  | .sub => sub8 a v false
  | .sbc => sub8 a v c
  | .and => and8 a v
  | .xor => xor8 a v
  | .or => or8 a v
  | .cp => sub8 a v false

/-- A 16-bit result with half-carry and carry. -/
structure Res16 where
  value : Word
  h : Bool
  c : Bool
  deriving DecidableEq, Repr

/-- `Add16(a, b)` (R254): H is the carry out of bit 11, C out of bit 15. -/
def add16 (a b : Word) : Res16 :=
  { value := a + b
    h := decide (a.toNat % 0x1000 + b.toNat % 0x1000 > 0xFFF)
    c := decide (a.toNat + b.toNat > 0xFFFF) }

/-- `AddSPe(sp, e)` (R255): H and C are the carries of the unsigned addition of the low byte of sp and the raw byte e. -/
def addSPe (sp : Word) (e : Byte) : Res16 :=
  { value := sp + sext16 e
    h := decide (sp.toNat % 16 + e.toNat % 16 > 0xF)
    c := decide (sp.toNat % 256 + e.toNat > 0xFF) }

/-- `Shift(op, v, c)` (R310): the result byte and the carry-out. -/
def shift (op : ShiftOp) (v : Byte) (c : Bool) : Byte × Bool :=
  match op with
  | .rlc => ((v <<< 1) ||| (v >>> 7), v.getLsbD 7)
  | .rrc => ((v >>> 1) ||| (v <<< 7), v.getLsbD 0)
  | .rl => ((v <<< 1) ||| bitByte c, v.getLsbD 7)
  | .rr => ((v >>> 1) ||| (bitByte c <<< 7), v.getLsbD 0)
  | .sla => (v <<< 1, v.getLsbD 7)
  | .sra => ((v >>> 1) ||| (v &&& 0x80), v.getLsbD 0)
  | .swap => (((v &&& 0x0F) <<< 4) ||| (v >>> 4), false)
  | .srl => (v >>> 1, v.getLsbD 0)

/-- `v & ~(1 << b)` (R333). -/
def resetBit (b : Fin 8) (v : Byte) : Byte := v &&& ~~~(1#8 <<< b.val)

/-- `v | (1 << b)` (R335). -/
def setBit (b : Fin 8) (v : Byte) : Byte := v ||| (1#8 <<< b.val)

/-- DAA (R391): the adjusted accumulator with Z, H = 0 and the new C; N is left as it was. -/
def daa (a : Byte) (n h c : Bool) : Res8 :=
  if n then
    let a1 := if c then a - 0x60 else a
    let a2 := if h then a1 - 0x06 else a1
    { value := a2, z := a2 == 0, n, h := false, c }
  else
    let high := c || decide (a.toNat > 0x99)
    let a1 := if high then a + 0x60 else a
    let a2 := if h || decide (a1.toNat % 16 > 0x09) then a1 + 0x06 else a1
    { value := a2, z := a2 == 0, n, h := false, c := high }

end Sys2Proof.Machine
end

