-- ==== Sys2Proof/WellFormed.lean ====
section
/-! DEFINITION. Which terms of `Instr` are whole instructions. Every operand is typed at the width its encoding
gives it, so an operand is never out of range; the one term that is not a whole instruction is the byte 0xCB
standing alone. -/

namespace Sys2Proof

/-- A whole instruction (R142: the length is 2 for 0xCB): every term but the byte 0xCB alone, which is only the first
byte of an extended instruction (R141). -/
def Instr.wellFormed : Instr → Bool
  | .prefixCB => false
  | _ => true

end Sys2Proof
end

