-- ==== Sys2Proof/Decode.lean ====
section
/-! DEFINITION. Decoding (30_encoding.md R140 to R157). The decoder reads the bit fields of R144 and R145; the encoder,
after it, is written from the opcode maps R153 and R154, so that their agreement is a check of both. The `mk…`
functions between them name the constructor of a form from its operand fields (R146 to R151). -/

namespace Sys2Proof

open Machine (hiByte loByte join)

/-! ## The constructor of each form, from its operand fields -/

/-- `LD r,r'`: destination, source (R201). -/
def mkLdReg : Reg8 → Reg8 → Instr
  | .b, .b => .ld_B_B
  | .b, .c => .ld_B_C
  | .b, .d => .ld_B_D
  | .b, .e => .ld_B_E
  | .b, .h => .ld_B_H
  | .b, .l => .ld_B_L
  | .b, .a => .ld_B_A
  | .c, .b => .ld_C_B
  | .c, .c => .ld_C_C
  | .c, .d => .ld_C_D
  | .c, .e => .ld_C_E
  | .c, .h => .ld_C_H
  | .c, .l => .ld_C_L
  | .c, .a => .ld_C_A
  | .d, .b => .ld_D_B
  | .d, .c => .ld_D_C
  | .d, .d => .ld_D_D
  | .d, .e => .ld_D_E
  | .d, .h => .ld_D_H
  | .d, .l => .ld_D_L
  | .d, .a => .ld_D_A
  | .e, .b => .ld_E_B
  | .e, .c => .ld_E_C
  | .e, .d => .ld_E_D
  | .e, .e => .ld_E_E
  | .e, .h => .ld_E_H
  | .e, .l => .ld_E_L
  | .e, .a => .ld_E_A
  | .h, .b => .ld_H_B
  | .h, .c => .ld_H_C
  | .h, .d => .ld_H_D
  | .h, .e => .ld_H_E
  | .h, .h => .ld_H_H
  | .h, .l => .ld_H_L
  | .h, .a => .ld_H_A
  | .l, .b => .ld_L_B
  | .l, .c => .ld_L_C
  | .l, .d => .ld_L_D
  | .l, .e => .ld_L_E
  | .l, .h => .ld_L_H
  | .l, .l => .ld_L_L
  | .l, .a => .ld_L_A
  | .a, .b => .ld_A_B
  | .a, .c => .ld_A_C
  | .a, .d => .ld_A_D
  | .a, .e => .ld_A_E
  | .a, .h => .ld_A_H
  | .a, .l => .ld_A_L
  | .a, .a => .ld_A_A

/-- `LD r,d8` (R202). -/
def mkLdImm (n : Byte) : Reg8 → Instr
  | .b => .ld_B_d8 n
  | .c => .ld_C_d8 n
  | .d => .ld_D_d8 n
  | .e => .ld_E_d8 n
  | .h => .ld_H_d8 n
  | .l => .ld_L_d8 n
  | .a => .ld_A_d8 n

/-- `LD r,[HL]` (R203). -/
def mkLdFromHL : Reg8 → Instr
  | .b => .ld_B_mHL
  | .c => .ld_C_mHL
  | .d => .ld_D_mHL
  | .e => .ld_E_mHL
  | .h => .ld_H_mHL
  | .l => .ld_L_mHL
  | .a => .ld_A_mHL

/-- `LD [HL],r` (R204). -/
def mkLdToHL : Reg8 → Instr
  | .b => .ld_mHL_B
  | .c => .ld_mHL_C
  | .d => .ld_mHL_D
  | .e => .ld_mHL_E
  | .h => .ld_mHL_H
  | .l => .ld_mHL_L
  | .a => .ld_mHL_A

/-- `LD rr,d16` (R220). -/
def mkLdPair (v : Word) : Pair → Instr
  | .bc => .ld_BC_d16 v
  | .de => .ld_DE_d16 v
  | .hl => .ld_HL_d16 v
  | .sp => .ld_SP_d16 v

/-- `PUSH qq` (R224). -/
def mkPush : StackPair → Instr
  | .bc => .push_BC
  | .de => .push_DE
  | .hl => .push_HL
  | .af => .push_AF

/-- `POP qq` (R225, R226). -/
def mkPop : StackPair → Instr
  | .bc => .pop_BC
  | .de => .pop_DE
  | .hl => .pop_HL
  | .af => .pop_AF

/-- The ALU operations on a register (R260 to R281). -/
def mkAluReg : AluOp → Reg8 → Instr
  | .add, .b => .add_A_B
  | .add, .c => .add_A_C
  | .add, .d => .add_A_D
  | .add, .e => .add_A_E
  | .add, .h => .add_A_H
  | .add, .l => .add_A_L
  | .add, .a => .add_A_A
  | .adc, .b => .adc_A_B
  | .adc, .c => .adc_A_C
  | .adc, .d => .adc_A_D
  | .adc, .e => .adc_A_E
  | .adc, .h => .adc_A_H
  | .adc, .l => .adc_A_L
  | .adc, .a => .adc_A_A
  | .sub, .b => .sub_B
  | .sub, .c => .sub_C
  | .sub, .d => .sub_D
  | .sub, .e => .sub_E
  | .sub, .h => .sub_H
  | .sub, .l => .sub_L
  | .sub, .a => .sub_A
  | .sbc, .b => .sbc_A_B
  | .sbc, .c => .sbc_A_C
  | .sbc, .d => .sbc_A_D
  | .sbc, .e => .sbc_A_E
  | .sbc, .h => .sbc_A_H
  | .sbc, .l => .sbc_A_L
  | .sbc, .a => .sbc_A_A
  | .and, .b => .and_B
  | .and, .c => .and_C
  | .and, .d => .and_D
  | .and, .e => .and_E
  | .and, .h => .and_H
  | .and, .l => .and_L
  | .and, .a => .and_A
  | .xor, .b => .xor_B
  | .xor, .c => .xor_C
  | .xor, .d => .xor_D
  | .xor, .e => .xor_E
  | .xor, .h => .xor_H
  | .xor, .l => .xor_L
  | .xor, .a => .xor_A
  | .or, .b => .or_B
  | .or, .c => .or_C
  | .or, .d => .or_D
  | .or, .e => .or_E
  | .or, .h => .or_H
  | .or, .l => .or_L
  | .or, .a => .or_A
  | .cp, .b => .cp_B
  | .cp, .c => .cp_C
  | .cp, .d => .cp_D
  | .cp, .e => .cp_E
  | .cp, .h => .cp_H
  | .cp, .l => .cp_L
  | .cp, .a => .cp_A

/-- The ALU operations on `[HL]` (R261 to R282). -/
def mkAluHL : AluOp → Instr
  | .add => .add_A_mHL
  | .adc => .adc_A_mHL
  | .sub => .sub_mHL
  | .sbc => .sbc_A_mHL
  | .and => .and_mHL
  | .xor => .xor_mHL
  | .or => .or_mHL
  | .cp => .cp_mHL

/-- The ALU operations on d8 (R262 to R283). -/
def mkAluImm (n : Byte) : AluOp → Instr
  | .add => .add_A_d8 n
  | .adc => .adc_A_d8 n
  | .sub => .sub_d8 n
  | .sbc => .sbc_A_d8 n
  | .and => .and_d8 n
  | .xor => .xor_d8 n
  | .or => .or_d8 n
  | .cp => .cp_d8 n

/-- `INC r` (R284). -/
def mkInc : Reg8 → Instr
  | .b => .inc_B
  | .c => .inc_C
  | .d => .inc_D
  | .e => .inc_E
  | .h => .inc_H
  | .l => .inc_L
  | .a => .inc_A

/-- `DEC r` (R286). -/
def mkDec : Reg8 → Instr
  | .b => .dec_B
  | .c => .dec_C
  | .d => .dec_D
  | .e => .dec_E
  | .h => .dec_H
  | .l => .dec_L
  | .a => .dec_A

/-- `ADD HL,rr` (R288). -/
def mkAddHL : Pair → Instr
  | .bc => .add_HL_BC
  | .de => .add_HL_DE
  | .hl => .add_HL_HL
  | .sp => .add_HL_SP

/-- `INC rr` (R289). -/
def mkIncPair : Pair → Instr
  | .bc => .inc_BC
  | .de => .inc_DE
  | .hl => .inc_HL
  | .sp => .inc_SP

/-- `DEC rr` (R290). -/
def mkDecPair : Pair → Instr
  | .bc => .dec_BC
  | .de => .dec_DE
  | .hl => .dec_HL
  | .sp => .dec_SP

/-- The extended rotates and shifts on a register (R315 to R329). -/
def mkShiftReg : ShiftOp → Reg8 → Instr
  | .rlc, .b => .rlc_B
  | .rlc, .c => .rlc_C
  | .rlc, .d => .rlc_D
  | .rlc, .e => .rlc_E
  | .rlc, .h => .rlc_H
  | .rlc, .l => .rlc_L
  | .rlc, .a => .rlc_A
  | .rrc, .b => .rrc_B
  | .rrc, .c => .rrc_C
  | .rrc, .d => .rrc_D
  | .rrc, .e => .rrc_E
  | .rrc, .h => .rrc_H
  | .rrc, .l => .rrc_L
  | .rrc, .a => .rrc_A
  | .rl, .b => .rl_B
  | .rl, .c => .rl_C
  | .rl, .d => .rl_D
  | .rl, .e => .rl_E
  | .rl, .h => .rl_H
  | .rl, .l => .rl_L
  | .rl, .a => .rl_A
  | .rr, .b => .rr_B
  | .rr, .c => .rr_C
  | .rr, .d => .rr_D
  | .rr, .e => .rr_E
  | .rr, .h => .rr_H
  | .rr, .l => .rr_L
  | .rr, .a => .rr_A
  | .sla, .b => .sla_B
  | .sla, .c => .sla_C
  | .sla, .d => .sla_D
  | .sla, .e => .sla_E
  | .sla, .h => .sla_H
  | .sla, .l => .sla_L
  | .sla, .a => .sla_A
  | .sra, .b => .sra_B
  | .sra, .c => .sra_C
  | .sra, .d => .sra_D
  | .sra, .e => .sra_E
  | .sra, .h => .sra_H
  | .sra, .l => .sra_L
  | .sra, .a => .sra_A
  | .swap, .b => .swap_B
  | .swap, .c => .swap_C
  | .swap, .d => .swap_D
  | .swap, .e => .swap_E
  | .swap, .h => .swap_H
  | .swap, .l => .swap_L
  | .swap, .a => .swap_A
  | .srl, .b => .srl_B
  | .srl, .c => .srl_C
  | .srl, .d => .srl_D
  | .srl, .e => .srl_E
  | .srl, .h => .srl_H
  | .srl, .l => .srl_L
  | .srl, .a => .srl_A

/-- The extended rotates and shifts on `[HL]` (R316 to R330). -/
def mkShiftHL : ShiftOp → Instr
  | .rlc => .rlc_mHL
  | .rrc => .rrc_mHL
  | .rl => .rl_mHL
  | .rr => .rr_mHL
  | .sla => .sla_mHL
  | .sra => .sra_mHL
  | .swap => .swap_mHL
  | .srl => .srl_mHL

/-- `BIT b,r` (R331). -/
def mkBitReg : Fin 8 → Reg8 → Instr
  | 0, .b => .bit_0_B
  | 0, .c => .bit_0_C
  | 0, .d => .bit_0_D
  | 0, .e => .bit_0_E
  | 0, .h => .bit_0_H
  | 0, .l => .bit_0_L
  | 0, .a => .bit_0_A
  | 1, .b => .bit_1_B
  | 1, .c => .bit_1_C
  | 1, .d => .bit_1_D
  | 1, .e => .bit_1_E
  | 1, .h => .bit_1_H
  | 1, .l => .bit_1_L
  | 1, .a => .bit_1_A
  | 2, .b => .bit_2_B
  | 2, .c => .bit_2_C
  | 2, .d => .bit_2_D
  | 2, .e => .bit_2_E
  | 2, .h => .bit_2_H
  | 2, .l => .bit_2_L
  | 2, .a => .bit_2_A
  | 3, .b => .bit_3_B
  | 3, .c => .bit_3_C
  | 3, .d => .bit_3_D
  | 3, .e => .bit_3_E
  | 3, .h => .bit_3_H
  | 3, .l => .bit_3_L
  | 3, .a => .bit_3_A
  | 4, .b => .bit_4_B
  | 4, .c => .bit_4_C
  | 4, .d => .bit_4_D
  | 4, .e => .bit_4_E
  | 4, .h => .bit_4_H
  | 4, .l => .bit_4_L
  | 4, .a => .bit_4_A
  | 5, .b => .bit_5_B
  | 5, .c => .bit_5_C
  | 5, .d => .bit_5_D
  | 5, .e => .bit_5_E
  | 5, .h => .bit_5_H
  | 5, .l => .bit_5_L
  | 5, .a => .bit_5_A
  | 6, .b => .bit_6_B
  | 6, .c => .bit_6_C
  | 6, .d => .bit_6_D
  | 6, .e => .bit_6_E
  | 6, .h => .bit_6_H
  | 6, .l => .bit_6_L
  | 6, .a => .bit_6_A
  | 7, .b => .bit_7_B
  | 7, .c => .bit_7_C
  | 7, .d => .bit_7_D
  | 7, .e => .bit_7_E
  | 7, .h => .bit_7_H
  | 7, .l => .bit_7_L
  | 7, .a => .bit_7_A

/-- `BIT b,[HL]` (R332). -/
def mkBitHL : Fin 8 → Instr
  | 0 => .bit_0_mHL
  | 1 => .bit_1_mHL
  | 2 => .bit_2_mHL
  | 3 => .bit_3_mHL
  | 4 => .bit_4_mHL
  | 5 => .bit_5_mHL
  | 6 => .bit_6_mHL
  | 7 => .bit_7_mHL

/-- `RES b,r` (R333). -/
def mkResReg : Fin 8 → Reg8 → Instr
  | 0, .b => .res_0_B
  | 0, .c => .res_0_C
  | 0, .d => .res_0_D
  | 0, .e => .res_0_E
  | 0, .h => .res_0_H
  | 0, .l => .res_0_L
  | 0, .a => .res_0_A
  | 1, .b => .res_1_B
  | 1, .c => .res_1_C
  | 1, .d => .res_1_D
  | 1, .e => .res_1_E
  | 1, .h => .res_1_H
  | 1, .l => .res_1_L
  | 1, .a => .res_1_A
  | 2, .b => .res_2_B
  | 2, .c => .res_2_C
  | 2, .d => .res_2_D
  | 2, .e => .res_2_E
  | 2, .h => .res_2_H
  | 2, .l => .res_2_L
  | 2, .a => .res_2_A
  | 3, .b => .res_3_B
  | 3, .c => .res_3_C
  | 3, .d => .res_3_D
  | 3, .e => .res_3_E
  | 3, .h => .res_3_H
  | 3, .l => .res_3_L
  | 3, .a => .res_3_A
  | 4, .b => .res_4_B
  | 4, .c => .res_4_C
  | 4, .d => .res_4_D
  | 4, .e => .res_4_E
  | 4, .h => .res_4_H
  | 4, .l => .res_4_L
  | 4, .a => .res_4_A
  | 5, .b => .res_5_B
  | 5, .c => .res_5_C
  | 5, .d => .res_5_D
  | 5, .e => .res_5_E
  | 5, .h => .res_5_H
  | 5, .l => .res_5_L
  | 5, .a => .res_5_A
  | 6, .b => .res_6_B
  | 6, .c => .res_6_C
  | 6, .d => .res_6_D
  | 6, .e => .res_6_E
  | 6, .h => .res_6_H
  | 6, .l => .res_6_L
  | 6, .a => .res_6_A
  | 7, .b => .res_7_B
  | 7, .c => .res_7_C
  | 7, .d => .res_7_D
  | 7, .e => .res_7_E
  | 7, .h => .res_7_H
  | 7, .l => .res_7_L
  | 7, .a => .res_7_A

/-- `RES b,[HL]` (R334). -/
def mkResHL : Fin 8 → Instr
  | 0 => .res_0_mHL
  | 1 => .res_1_mHL
  | 2 => .res_2_mHL
  | 3 => .res_3_mHL
  | 4 => .res_4_mHL
  | 5 => .res_5_mHL
  | 6 => .res_6_mHL
  | 7 => .res_7_mHL

/-- `SET b,r` (R335). -/
def mkSetReg : Fin 8 → Reg8 → Instr
  | 0, .b => .set_0_B
  | 0, .c => .set_0_C
  | 0, .d => .set_0_D
  | 0, .e => .set_0_E
  | 0, .h => .set_0_H
  | 0, .l => .set_0_L
  | 0, .a => .set_0_A
  | 1, .b => .set_1_B
  | 1, .c => .set_1_C
  | 1, .d => .set_1_D
  | 1, .e => .set_1_E
  | 1, .h => .set_1_H
  | 1, .l => .set_1_L
  | 1, .a => .set_1_A
  | 2, .b => .set_2_B
  | 2, .c => .set_2_C
  | 2, .d => .set_2_D
  | 2, .e => .set_2_E
  | 2, .h => .set_2_H
  | 2, .l => .set_2_L
  | 2, .a => .set_2_A
  | 3, .b => .set_3_B
  | 3, .c => .set_3_C
  | 3, .d => .set_3_D
  | 3, .e => .set_3_E
  | 3, .h => .set_3_H
  | 3, .l => .set_3_L
  | 3, .a => .set_3_A
  | 4, .b => .set_4_B
  | 4, .c => .set_4_C
  | 4, .d => .set_4_D
  | 4, .e => .set_4_E
  | 4, .h => .set_4_H
  | 4, .l => .set_4_L
  | 4, .a => .set_4_A
  | 5, .b => .set_5_B
  | 5, .c => .set_5_C
  | 5, .d => .set_5_D
  | 5, .e => .set_5_E
  | 5, .h => .set_5_H
  | 5, .l => .set_5_L
  | 5, .a => .set_5_A
  | 6, .b => .set_6_B
  | 6, .c => .set_6_C
  | 6, .d => .set_6_D
  | 6, .e => .set_6_E
  | 6, .h => .set_6_H
  | 6, .l => .set_6_L
  | 6, .a => .set_6_A
  | 7, .b => .set_7_B
  | 7, .c => .set_7_C
  | 7, .d => .set_7_D
  | 7, .e => .set_7_E
  | 7, .h => .set_7_H
  | 7, .l => .set_7_L
  | 7, .a => .set_7_A

/-- `SET b,[HL]` (R336). -/
def mkSetHL : Fin 8 → Instr
  | 0 => .set_0_mHL
  | 1 => .set_1_mHL
  | 2 => .set_2_mHL
  | 3 => .set_3_mHL
  | 4 => .set_4_mHL
  | 5 => .set_5_mHL
  | 6 => .set_6_mHL
  | 7 => .set_7_mHL

/-- `JR cc,s8` (R355). -/
def mkJrCond (e : Byte) : Cond → Instr
  | .nz => .jr_NZ_s8 e
  | .z => .jr_Z_s8 e
  | .nc => .jr_NC_s8 e
  | .c => .jr_C_s8 e

/-- `JP cc,a16` (R352). -/
def mkJpCond (v : Word) : Cond → Instr
  | .nz => .jp_NZ_a16 v
  | .z => .jp_Z_a16 v
  | .nc => .jp_NC_a16 v
  | .c => .jp_C_a16 v

/-- `CALL cc,a16` (R357). -/
def mkCallCond (v : Word) : Cond → Instr
  | .nz => .call_NZ_a16 v
  | .z => .call_Z_a16 v
  | .nc => .call_NC_a16 v
  | .c => .call_C_a16 v

/-- `RET cc` (R359). -/
def mkRetCond : Cond → Instr
  | .nz => .ret_NZ
  | .z => .ret_Z
  | .nc => .ret_NC
  | .c => .ret_C

/-- `RST t`, t the three-bit field (R366). -/
def mkRst : Fin 8 → Instr
  | 0 => .rst_00
  | 1 => .rst_08
  | 2 => .rst_10
  | 3 => .rst_18
  | 4 => .rst_20
  | 5 => .rst_28
  | 6 => .rst_30
  | 7 => .rst_38

/-! ## The operand fields -/

/-- An 8-bit operand: a register, or the byte at HL (R146). -/
inductive Operand8 where
  | reg (r : Reg8)
  | mHL
  deriving DecidableEq, Repr

/-- The `r` field (R146). -/
def operand8Field : Nat → Operand8
  | 0 => .reg .b
  | 1 => .reg .c
  | 2 => .reg .d
  | 3 => .reg .e
  | 4 => .reg .h
  | 5 => .reg .l
  | 6 => .mHL
  | _ => .reg .a

/-- The `rr` field (R147). -/
def pairField : Nat → Pair
  | 0 => .bc
  | 1 => .de
  | 2 => .hl
  | _ => .sp

/-- The `qq` field (R148). -/
def stackPairField : Nat → StackPair
  | 0 => .bc
  | 1 => .de
  | 2 => .hl
  | _ => .af

/-- The `cc` field (R149). -/
def condField : Nat → Cond
  | 0 => .nz
  | 1 => .z
  | 2 => .nc
  | _ => .c

/-- The ALU operation field (R150). -/
def aluField : Nat → AluOp
  | 0 => .add
  | 1 => .adc
  | 2 => .sub
  | 3 => .sbc
  | 4 => .and
  | 5 => .xor
  | 6 => .or
  | _ => .cp

/-- The rotate and shift operation field (R151). -/
def shiftField : Nat → ShiftOp
  | 0 => .rlc
  | 1 => .rrc
  | 2 => .rl
  | 3 => .rr
  | 4 => .sla
  | 5 => .sra
  | 6 => .swap
  | _ => .srl

/-- A three-bit field as a bit index or a restart number. -/
def fin8Field (y : Nat) : Fin 8 := ⟨y % 8, Nat.mod_lt y (by decide)⟩

/-- `op[7:6]` (R144, R145). -/
def fieldX (op : Byte) : Nat := op.toNat / 64
/-- `op[5:3]` (R144, R145). -/
def fieldY (op : Byte) : Nat := op.toNat / 8 % 8
/-- `op[2:0]` (R144, R145). -/
def fieldZ (op : Byte) : Nat := op.toNat % 8
/-- `op[5:4]` (R144). -/
def fieldP (op : Byte) : Nat := op.toNat / 16 % 4
/-- `op[3]` (R144). -/
def fieldQ (op : Byte) : Nat := op.toNat / 8 % 2
/-- `op[4:3]` (R144). -/
def fieldCC (op : Byte) : Nat := op.toNat / 8 % 4

/-! ## Decoding -/

/-- The extended table (R145, R154): the instruction of the byte after 0xCB. Every slot is assigned. -/
def decodeExtended (op2 : Byte) : Instr :=
  match fieldX op2, operand8Field (fieldZ op2) with
  | 0, .reg r => mkShiftReg (shiftField (fieldY op2)) r
  | 0, .mHL => mkShiftHL (shiftField (fieldY op2))
  | 1, .reg r => mkBitReg (fin8Field (fieldY op2)) r
  | 1, .mHL => mkBitHL (fin8Field (fieldY op2))
  | 2, .reg r => mkResReg (fin8Field (fieldY op2)) r
  | 2, .mHL => mkResHL (fin8Field (fieldY op2))
  | _, .reg r => mkSetReg (fin8Field (fieldY op2)) r
  | _, .mHL => mkSetHL (fin8Field (fieldY op2))

/-- The quarter `op[7:6] = 0` of the primary table (R144, R153); `n1`, `n2` are the bytes after the opcode. -/
def decodeX0 (op n1 n2 : Byte) : Instr :=
  match fieldZ op, fieldY op with
  | 0, 0 => .nop
  | 0, 1 => .ld_mA16_SP (join n2 n1)
  | 0, 2 => .stop n1
  | 0, 3 => .jr_s8 n1
  | 0, _ => mkJrCond n1 (condField (fieldCC op))
  | 1, _ => if fieldQ op = 0 then mkLdPair (join n2 n1) (pairField (fieldP op)) else mkAddHL (pairField (fieldP op))
  | 2, 0 => .ld_mBC_A
  | 2, 1 => .ld_A_mBC
  | 2, 2 => .ld_mDE_A
  | 2, 3 => .ld_A_mDE
  | 2, 4 => .ld_mHLinc_A
  | 2, 5 => .ld_A_mHLinc
  | 2, 6 => .ld_mHLdec_A
  | 2, _ => .ld_A_mHLdec
  | 3, _ => if fieldQ op = 0 then mkIncPair (pairField (fieldP op)) else mkDecPair (pairField (fieldP op))
  | 4, y =>
    match operand8Field y with
    | .reg r => mkInc r
    | .mHL => .inc_mHL
  | 5, y =>
    match operand8Field y with
    | .reg r => mkDec r
    | .mHL => .dec_mHL
  | 6, y =>
    match operand8Field y with
    | .reg r => mkLdImm n1 r
    | .mHL => .ld_mHL_d8 n1
  | _, 0 => .rlca
  | _, 1 => .rrca
  | _, 2 => .rla
  | _, 3 => .rra
  | _, 4 => .daa
  | _, 5 => .cpl
  | _, 6 => .scf
  | _, _ => .ccf

/-- The quarter `op[7:6] = 1` (R144): the register loads and HALT. -/
def decodeX1 (op : Byte) : Instr :=
  match operand8Field (fieldY op), operand8Field (fieldZ op) with
  | .reg dst, .reg src => mkLdReg dst src
  | .reg dst, .mHL => mkLdFromHL dst
  | .mHL, .reg src => mkLdToHL src
  | .mHL, .mHL => .halt

/-- The quarter `op[7:6] = 2` (R144): the ALU operations on a register or `[HL]`. -/
def decodeX2 (op : Byte) : Instr :=
  match operand8Field (fieldZ op) with
  | .reg r => mkAluReg (aluField (fieldY op)) r
  | .mHL => mkAluHL (aluField (fieldY op))

/-- The quarter `op[7:6] = 3` (R144, R153, R155). After 0xCB the next byte selects the extended instruction (R141). -/
def decodeX3 (op n1 n2 : Byte) : Instr :=
  match fieldZ op, fieldY op with
  | 0, 4 => .ldh_mA8_A n1
  | 0, 5 => .add_SP_s8 n1
  | 0, 6 => .ldh_A_mA8 n1
  | 0, 7 => .ld_HL_SPs8 n1
  | 0, _ => mkRetCond (condField (fieldCC op))
  | 1, 1 => .ret
  | 1, 3 => .reti
  | 1, 5 => .jp_HL
  | 1, 7 => .ld_SP_HL
  | 1, _ => mkPop (stackPairField (fieldP op))
  | 2, 4 => .ldh_mC_A
  | 2, 5 => .ld_mA16_A (join n2 n1)
  | 2, 6 => .ldh_A_mC
  | 2, 7 => .ld_A_mA16 (join n2 n1)
  | 2, _ => mkJpCond (join n2 n1) (condField (fieldCC op))
  | 3, 0 => .jp_a16 (join n2 n1)
  | 3, 1 => decodeExtended n1
  | 3, 2 => .illegal_D3
  | 3, 3 => .illegal_DB
  | 3, 4 => .illegal_E3
  | 3, 5 => .illegal_EB
  | 3, 6 => .di
  | 3, _ => .ei
  | 4, 4 => .illegal_E4
  | 4, 5 => .illegal_EC
  | 4, 6 => .illegal_F4
  | 4, 7 => .illegal_FC
  | 4, _ => mkCallCond (join n2 n1) (condField (fieldCC op))
  | 5, 1 => .call_a16 (join n2 n1)
  | 5, 3 => .illegal_DD
  | 5, 5 => .illegal_ED
  | 5, 7 => .illegal_FD
  | 5, _ => mkPush (stackPairField (fieldP op))
  | 6, y => mkAluImm n1 (aluField y)
  | _, y => mkRst (fin8Field y)

/-- The instruction that starts with the byte `op`, `n1` and `n2` being the two bytes after it (R140 line 6). Total:
every byte is an instruction, 0xCB or illegal (R157), and an illegal byte decodes to its own row (R155). -/
def decodeOp (op n1 n2 : Byte) : Instr :=
  match fieldX op with
  | 0 => decodeX0 op n1 n2
  | 1 => decodeX1 op
  | 2 => decodeX2 op
  | _ => decodeX3 op n1 n2

/-- The length of the instruction that starts with the byte `op` (R142), a function of that byte alone: 3 for the forms
with d16 or a16, 2 for those with d8, s8 or a8, for STOP and for 0xCB, 1 for all others. -/
def lengthOf (op : Byte) : Nat :=
  match fieldX op, fieldZ op, fieldY op with
  | 0, 0, 0 => 1
  | 0, 0, 1 => 3
  | 0, 0, _ => 2
  | 0, 1, _ => if fieldQ op = 0 then 3 else 1
  | 0, 6, _ => 2
  | 0, _, _ => 1
  | 1, _, _ => 1
  | 2, _, _ => 1
  | _, 0, y => if y < 4 then 1 else 2
  | _, 2, 4 => 1
  | _, 2, 6 => 1
  | _, 2, _ => 3
  | _, 3, 0 => 3
  | _, 3, 1 => 2
  | _, 4, y => if y < 4 then 3 else 1
  | _, 5, 1 => 3
  | _, 6, _ => 2
  | _, _, _ => 1

/-- Why a list of bytes gives no instruction. -/
inductive DecodeError where
  /-- The list ends before the instruction does. -/
  | truncated
  deriving DecidableEq, Repr

/-- Decoding a list of bytes: the instruction at its head and the bytes after it, or the error's name. The list that is
the one byte 0xCB is the table's own row for that byte (log 10). -/
def decode : List Byte → Except DecodeError (Instr × List Byte)
  | [] => .error .truncated
  | [op] => if op = 0xCB then .ok (.prefixCB, []) else if lengthOf op = 1 then .ok (decodeOp op 0 0, []) else .error .truncated
  | [op, n1] =>
    if lengthOf op = 1 then .ok (decodeOp op 0 0, [n1])
    else if lengthOf op = 2 then .ok (decodeOp op n1 0, [])
    else .error .truncated
  | op :: n1 :: n2 :: rest =>
    if lengthOf op = 1 then .ok (decodeOp op 0 0, n1 :: n2 :: rest)
    else if lengthOf op = 2 then .ok (decodeOp op n1 0, n2 :: rest)
    else .ok (decodeOp op n1 n2, rest)

/-- The eleven illegal rows (R155). -/
def Instr.isIllegal : Instr → Bool
  | .illegal_D3 => true
  | .illegal_DB => true
  | .illegal_DD => true
  | .illegal_E3 => true
  | .illegal_E4 => true
  | .illegal_EB => true
  | .illegal_EC => true
  | .illegal_ED => true
  | .illegal_F4 => true
  | .illegal_FC => true
  | .illegal_FD => true
  | _ => false

/-! ## Encoding -/

/-- The bytes of an instruction in address order, from the opcode maps R153 and R154; 16-bit immediates low byte first
(R115, R152). -/
def encode (i : Instr) : List Byte :=
  match i with
  | .nop => [0x00]
  | .ld_BC_d16 v => [0x01, loByte v, hiByte v]
  | .ld_mBC_A => [0x02]
  | .inc_BC => [0x03]
  | .inc_B => [0x04]
  | .dec_B => [0x05]
  | .ld_B_d8 n => [0x06, n]
  | .rlca => [0x07]
  | .ld_mA16_SP v => [0x08, loByte v, hiByte v]
  | .add_HL_BC => [0x09]
  | .ld_A_mBC => [0x0A]
  | .dec_BC => [0x0B]
  | .inc_C => [0x0C]
  | .dec_C => [0x0D]
  | .ld_C_d8 n => [0x0E, n]
  | .rrca => [0x0F]
  | .stop n => [0x10, n]
  | .ld_DE_d16 v => [0x11, loByte v, hiByte v]
  | .ld_mDE_A => [0x12]
  | .inc_DE => [0x13]
  | .inc_D => [0x14]
  | .dec_D => [0x15]
  | .ld_D_d8 n => [0x16, n]
  | .rla => [0x17]
  | .jr_s8 n => [0x18, n]
  | .add_HL_DE => [0x19]
  | .ld_A_mDE => [0x1A]
  | .dec_DE => [0x1B]
  | .inc_E => [0x1C]
  | .dec_E => [0x1D]
  | .ld_E_d8 n => [0x1E, n]
  | .rra => [0x1F]
  | .jr_NZ_s8 n => [0x20, n]
  | .ld_HL_d16 v => [0x21, loByte v, hiByte v]
  | .ld_mHLinc_A => [0x22]
  | .inc_HL => [0x23]
  | .inc_H => [0x24]
  | .dec_H => [0x25]
  | .ld_H_d8 n => [0x26, n]
  | .daa => [0x27]
  | .jr_Z_s8 n => [0x28, n]
  | .add_HL_HL => [0x29]
  | .ld_A_mHLinc => [0x2A]
  | .dec_HL => [0x2B]
  | .inc_L => [0x2C]
  | .dec_L => [0x2D]
  | .ld_L_d8 n => [0x2E, n]
  | .cpl => [0x2F]
  | .jr_NC_s8 n => [0x30, n]
  | .ld_SP_d16 v => [0x31, loByte v, hiByte v]
  | .ld_mHLdec_A => [0x32]
  | .inc_SP => [0x33]
  | .inc_mHL => [0x34]
  | .dec_mHL => [0x35]
  | .ld_mHL_d8 n => [0x36, n]
  | .scf => [0x37]
  | .jr_C_s8 n => [0x38, n]
  | .add_HL_SP => [0x39]
  | .ld_A_mHLdec => [0x3A]
  | .dec_SP => [0x3B]
  | .inc_A => [0x3C]
  | .dec_A => [0x3D]
  | .ld_A_d8 n => [0x3E, n]
  | .ccf => [0x3F]
  | .ld_B_B => [0x40]
  | .ld_B_C => [0x41]
  | .ld_B_D => [0x42]
  | .ld_B_E => [0x43]
  | .ld_B_H => [0x44]
  | .ld_B_L => [0x45]
  | .ld_B_mHL => [0x46]
  | .ld_B_A => [0x47]
  | .ld_C_B => [0x48]
  | .ld_C_C => [0x49]
  | .ld_C_D => [0x4A]
  | .ld_C_E => [0x4B]
  | .ld_C_H => [0x4C]
  | .ld_C_L => [0x4D]
  | .ld_C_mHL => [0x4E]
  | .ld_C_A => [0x4F]
  | .ld_D_B => [0x50]
  | .ld_D_C => [0x51]
  | .ld_D_D => [0x52]
  | .ld_D_E => [0x53]
  | .ld_D_H => [0x54]
  | .ld_D_L => [0x55]
  | .ld_D_mHL => [0x56]
  | .ld_D_A => [0x57]
  | .ld_E_B => [0x58]
  | .ld_E_C => [0x59]
  | .ld_E_D => [0x5A]
  | .ld_E_E => [0x5B]
  | .ld_E_H => [0x5C]
  | .ld_E_L => [0x5D]
  | .ld_E_mHL => [0x5E]
  | .ld_E_A => [0x5F]
  | .ld_H_B => [0x60]
  | .ld_H_C => [0x61]
  | .ld_H_D => [0x62]
  | .ld_H_E => [0x63]
  | .ld_H_H => [0x64]
  | .ld_H_L => [0x65]
  | .ld_H_mHL => [0x66]
  | .ld_H_A => [0x67]
  | .ld_L_B => [0x68]
  | .ld_L_C => [0x69]
  | .ld_L_D => [0x6A]
  | .ld_L_E => [0x6B]
  | .ld_L_H => [0x6C]
  | .ld_L_L => [0x6D]
  | .ld_L_mHL => [0x6E]
  | .ld_L_A => [0x6F]
  | .ld_mHL_B => [0x70]
  | .ld_mHL_C => [0x71]
  | .ld_mHL_D => [0x72]
  | .ld_mHL_E => [0x73]
  | .ld_mHL_H => [0x74]
  | .ld_mHL_L => [0x75]
  | .halt => [0x76]
  | .ld_mHL_A => [0x77]
  | .ld_A_B => [0x78]
  | .ld_A_C => [0x79]
  | .ld_A_D => [0x7A]
  | .ld_A_E => [0x7B]
  | .ld_A_H => [0x7C]
  | .ld_A_L => [0x7D]
  | .ld_A_mHL => [0x7E]
  | .ld_A_A => [0x7F]
  | .add_A_B => [0x80]
  | .add_A_C => [0x81]
  | .add_A_D => [0x82]
  | .add_A_E => [0x83]
  | .add_A_H => [0x84]
  | .add_A_L => [0x85]
  | .add_A_mHL => [0x86]
  | .add_A_A => [0x87]
  | .adc_A_B => [0x88]
  | .adc_A_C => [0x89]
  | .adc_A_D => [0x8A]
  | .adc_A_E => [0x8B]
  | .adc_A_H => [0x8C]
  | .adc_A_L => [0x8D]
  | .adc_A_mHL => [0x8E]
  | .adc_A_A => [0x8F]
  | .sub_B => [0x90]
  | .sub_C => [0x91]
  | .sub_D => [0x92]
  | .sub_E => [0x93]
  | .sub_H => [0x94]
  | .sub_L => [0x95]
  | .sub_mHL => [0x96]
  | .sub_A => [0x97]
  | .sbc_A_B => [0x98]
  | .sbc_A_C => [0x99]
  | .sbc_A_D => [0x9A]
  | .sbc_A_E => [0x9B]
  | .sbc_A_H => [0x9C]
  | .sbc_A_L => [0x9D]
  | .sbc_A_mHL => [0x9E]
  | .sbc_A_A => [0x9F]
  | .and_B => [0xA0]
  | .and_C => [0xA1]
  | .and_D => [0xA2]
  | .and_E => [0xA3]
  | .and_H => [0xA4]
  | .and_L => [0xA5]
  | .and_mHL => [0xA6]
  | .and_A => [0xA7]
  | .xor_B => [0xA8]
  | .xor_C => [0xA9]
  | .xor_D => [0xAA]
  | .xor_E => [0xAB]
  | .xor_H => [0xAC]
  | .xor_L => [0xAD]
  | .xor_mHL => [0xAE]
  | .xor_A => [0xAF]
  | .or_B => [0xB0]
  | .or_C => [0xB1]
  | .or_D => [0xB2]
  | .or_E => [0xB3]
  | .or_H => [0xB4]
  | .or_L => [0xB5]
  | .or_mHL => [0xB6]
  | .or_A => [0xB7]
  | .cp_B => [0xB8]
  | .cp_C => [0xB9]
  | .cp_D => [0xBA]
  | .cp_E => [0xBB]
  | .cp_H => [0xBC]
  | .cp_L => [0xBD]
  | .cp_mHL => [0xBE]
  | .cp_A => [0xBF]
  | .ret_NZ => [0xC0]
  | .pop_BC => [0xC1]
  | .jp_NZ_a16 v => [0xC2, loByte v, hiByte v]
  | .jp_a16 v => [0xC3, loByte v, hiByte v]
  | .call_NZ_a16 v => [0xC4, loByte v, hiByte v]
  | .push_BC => [0xC5]
  | .add_A_d8 n => [0xC6, n]
  | .rst_00 => [0xC7]
  | .ret_Z => [0xC8]
  | .ret => [0xC9]
  | .jp_Z_a16 v => [0xCA, loByte v, hiByte v]
  | .prefixCB => [0xCB]
  | .call_Z_a16 v => [0xCC, loByte v, hiByte v]
  | .call_a16 v => [0xCD, loByte v, hiByte v]
  | .adc_A_d8 n => [0xCE, n]
  | .rst_08 => [0xCF]
  | .ret_NC => [0xD0]
  | .pop_DE => [0xD1]
  | .jp_NC_a16 v => [0xD2, loByte v, hiByte v]
  | .illegal_D3 => [0xD3]
  | .call_NC_a16 v => [0xD4, loByte v, hiByte v]
  | .push_DE => [0xD5]
  | .sub_d8 n => [0xD6, n]
  | .rst_10 => [0xD7]
  | .ret_C => [0xD8]
  | .reti => [0xD9]
  | .jp_C_a16 v => [0xDA, loByte v, hiByte v]
  | .illegal_DB => [0xDB]
  | .call_C_a16 v => [0xDC, loByte v, hiByte v]
  | .illegal_DD => [0xDD]
  | .sbc_A_d8 n => [0xDE, n]
  | .rst_18 => [0xDF]
  | .ldh_mA8_A n => [0xE0, n]
  | .pop_HL => [0xE1]
  | .ldh_mC_A => [0xE2]
  | .illegal_E3 => [0xE3]
  | .illegal_E4 => [0xE4]
  | .push_HL => [0xE5]
  | .and_d8 n => [0xE6, n]
  | .rst_20 => [0xE7]
  | .add_SP_s8 n => [0xE8, n]
  | .jp_HL => [0xE9]
  | .ld_mA16_A v => [0xEA, loByte v, hiByte v]
  | .illegal_EB => [0xEB]
  | .illegal_EC => [0xEC]
  | .illegal_ED => [0xED]
  | .xor_d8 n => [0xEE, n]
  | .rst_28 => [0xEF]
  | .ldh_A_mA8 n => [0xF0, n]
  | .pop_AF => [0xF1]
  | .ldh_A_mC => [0xF2]
  | .di => [0xF3]
  | .illegal_F4 => [0xF4]
  | .push_AF => [0xF5]
  | .or_d8 n => [0xF6, n]
  | .rst_30 => [0xF7]
  | .ld_HL_SPs8 n => [0xF8, n]
  | .ld_SP_HL => [0xF9]
  | .ld_A_mA16 v => [0xFA, loByte v, hiByte v]
  | .ei => [0xFB]
  | .illegal_FC => [0xFC]
  | .illegal_FD => [0xFD]
  | .cp_d8 n => [0xFE, n]
  | .rst_38 => [0xFF]
  | .rlc_B => [0xCB, 0x00]
  | .rlc_C => [0xCB, 0x01]
  | .rlc_D => [0xCB, 0x02]
  | .rlc_E => [0xCB, 0x03]
  | .rlc_H => [0xCB, 0x04]
  | .rlc_L => [0xCB, 0x05]
  | .rlc_mHL => [0xCB, 0x06]
  | .rlc_A => [0xCB, 0x07]
  | .rrc_B => [0xCB, 0x08]
  | .rrc_C => [0xCB, 0x09]
  | .rrc_D => [0xCB, 0x0A]
  | .rrc_E => [0xCB, 0x0B]
  | .rrc_H => [0xCB, 0x0C]
  | .rrc_L => [0xCB, 0x0D]
  | .rrc_mHL => [0xCB, 0x0E]
  | .rrc_A => [0xCB, 0x0F]
  | .rl_B => [0xCB, 0x10]
  | .rl_C => [0xCB, 0x11]
  | .rl_D => [0xCB, 0x12]
  | .rl_E => [0xCB, 0x13]
  | .rl_H => [0xCB, 0x14]
  | .rl_L => [0xCB, 0x15]
  | .rl_mHL => [0xCB, 0x16]
  | .rl_A => [0xCB, 0x17]
  | .rr_B => [0xCB, 0x18]
  | .rr_C => [0xCB, 0x19]
  | .rr_D => [0xCB, 0x1A]
  | .rr_E => [0xCB, 0x1B]
  | .rr_H => [0xCB, 0x1C]
  | .rr_L => [0xCB, 0x1D]
  | .rr_mHL => [0xCB, 0x1E]
  | .rr_A => [0xCB, 0x1F]
  | .sla_B => [0xCB, 0x20]
  | .sla_C => [0xCB, 0x21]
  | .sla_D => [0xCB, 0x22]
  | .sla_E => [0xCB, 0x23]
  | .sla_H => [0xCB, 0x24]
  | .sla_L => [0xCB, 0x25]
  | .sla_mHL => [0xCB, 0x26]
  | .sla_A => [0xCB, 0x27]
  | .sra_B => [0xCB, 0x28]
  | .sra_C => [0xCB, 0x29]
  | .sra_D => [0xCB, 0x2A]
  | .sra_E => [0xCB, 0x2B]
  | .sra_H => [0xCB, 0x2C]
  | .sra_L => [0xCB, 0x2D]
  | .sra_mHL => [0xCB, 0x2E]
  | .sra_A => [0xCB, 0x2F]
  | .swap_B => [0xCB, 0x30]
  | .swap_C => [0xCB, 0x31]
  | .swap_D => [0xCB, 0x32]
  | .swap_E => [0xCB, 0x33]
  | .swap_H => [0xCB, 0x34]
  | .swap_L => [0xCB, 0x35]
  | .swap_mHL => [0xCB, 0x36]
  | .swap_A => [0xCB, 0x37]
  | .srl_B => [0xCB, 0x38]
  | .srl_C => [0xCB, 0x39]
  | .srl_D => [0xCB, 0x3A]
  | .srl_E => [0xCB, 0x3B]
  | .srl_H => [0xCB, 0x3C]
  | .srl_L => [0xCB, 0x3D]
  | .srl_mHL => [0xCB, 0x3E]
  | .srl_A => [0xCB, 0x3F]
  | .bit_0_B => [0xCB, 0x40]
  | .bit_0_C => [0xCB, 0x41]
  | .bit_0_D => [0xCB, 0x42]
  | .bit_0_E => [0xCB, 0x43]
  | .bit_0_H => [0xCB, 0x44]
  | .bit_0_L => [0xCB, 0x45]
  | .bit_0_mHL => [0xCB, 0x46]
  | .bit_0_A => [0xCB, 0x47]
  | .bit_1_B => [0xCB, 0x48]
  | .bit_1_C => [0xCB, 0x49]
  | .bit_1_D => [0xCB, 0x4A]
  | .bit_1_E => [0xCB, 0x4B]
  | .bit_1_H => [0xCB, 0x4C]
  | .bit_1_L => [0xCB, 0x4D]
  | .bit_1_mHL => [0xCB, 0x4E]
  | .bit_1_A => [0xCB, 0x4F]
  | .bit_2_B => [0xCB, 0x50]
  | .bit_2_C => [0xCB, 0x51]
  | .bit_2_D => [0xCB, 0x52]
  | .bit_2_E => [0xCB, 0x53]
  | .bit_2_H => [0xCB, 0x54]
  | .bit_2_L => [0xCB, 0x55]
  | .bit_2_mHL => [0xCB, 0x56]
  | .bit_2_A => [0xCB, 0x57]
  | .bit_3_B => [0xCB, 0x58]
  | .bit_3_C => [0xCB, 0x59]
  | .bit_3_D => [0xCB, 0x5A]
  | .bit_3_E => [0xCB, 0x5B]
  | .bit_3_H => [0xCB, 0x5C]
  | .bit_3_L => [0xCB, 0x5D]
  | .bit_3_mHL => [0xCB, 0x5E]
  | .bit_3_A => [0xCB, 0x5F]
  | .bit_4_B => [0xCB, 0x60]
  | .bit_4_C => [0xCB, 0x61]
  | .bit_4_D => [0xCB, 0x62]
  | .bit_4_E => [0xCB, 0x63]
  | .bit_4_H => [0xCB, 0x64]
  | .bit_4_L => [0xCB, 0x65]
  | .bit_4_mHL => [0xCB, 0x66]
  | .bit_4_A => [0xCB, 0x67]
  | .bit_5_B => [0xCB, 0x68]
  | .bit_5_C => [0xCB, 0x69]
  | .bit_5_D => [0xCB, 0x6A]
  | .bit_5_E => [0xCB, 0x6B]
  | .bit_5_H => [0xCB, 0x6C]
  | .bit_5_L => [0xCB, 0x6D]
  | .bit_5_mHL => [0xCB, 0x6E]
  | .bit_5_A => [0xCB, 0x6F]
  | .bit_6_B => [0xCB, 0x70]
  | .bit_6_C => [0xCB, 0x71]
  | .bit_6_D => [0xCB, 0x72]
  | .bit_6_E => [0xCB, 0x73]
  | .bit_6_H => [0xCB, 0x74]
  | .bit_6_L => [0xCB, 0x75]
  | .bit_6_mHL => [0xCB, 0x76]
  | .bit_6_A => [0xCB, 0x77]
  | .bit_7_B => [0xCB, 0x78]
  | .bit_7_C => [0xCB, 0x79]
  | .bit_7_D => [0xCB, 0x7A]
  | .bit_7_E => [0xCB, 0x7B]
  | .bit_7_H => [0xCB, 0x7C]
  | .bit_7_L => [0xCB, 0x7D]
  | .bit_7_mHL => [0xCB, 0x7E]
  | .bit_7_A => [0xCB, 0x7F]
  | .res_0_B => [0xCB, 0x80]
  | .res_0_C => [0xCB, 0x81]
  | .res_0_D => [0xCB, 0x82]
  | .res_0_E => [0xCB, 0x83]
  | .res_0_H => [0xCB, 0x84]
  | .res_0_L => [0xCB, 0x85]
  | .res_0_mHL => [0xCB, 0x86]
  | .res_0_A => [0xCB, 0x87]
  | .res_1_B => [0xCB, 0x88]
  | .res_1_C => [0xCB, 0x89]
  | .res_1_D => [0xCB, 0x8A]
  | .res_1_E => [0xCB, 0x8B]
  | .res_1_H => [0xCB, 0x8C]
  | .res_1_L => [0xCB, 0x8D]
  | .res_1_mHL => [0xCB, 0x8E]
  | .res_1_A => [0xCB, 0x8F]
  | .res_2_B => [0xCB, 0x90]
  | .res_2_C => [0xCB, 0x91]
  | .res_2_D => [0xCB, 0x92]
  | .res_2_E => [0xCB, 0x93]
  | .res_2_H => [0xCB, 0x94]
  | .res_2_L => [0xCB, 0x95]
  | .res_2_mHL => [0xCB, 0x96]
  | .res_2_A => [0xCB, 0x97]
  | .res_3_B => [0xCB, 0x98]
  | .res_3_C => [0xCB, 0x99]
  | .res_3_D => [0xCB, 0x9A]
  | .res_3_E => [0xCB, 0x9B]
  | .res_3_H => [0xCB, 0x9C]
  | .res_3_L => [0xCB, 0x9D]
  | .res_3_mHL => [0xCB, 0x9E]
  | .res_3_A => [0xCB, 0x9F]
  | .res_4_B => [0xCB, 0xA0]
  | .res_4_C => [0xCB, 0xA1]
  | .res_4_D => [0xCB, 0xA2]
  | .res_4_E => [0xCB, 0xA3]
  | .res_4_H => [0xCB, 0xA4]
  | .res_4_L => [0xCB, 0xA5]
  | .res_4_mHL => [0xCB, 0xA6]
  | .res_4_A => [0xCB, 0xA7]
  | .res_5_B => [0xCB, 0xA8]
  | .res_5_C => [0xCB, 0xA9]
  | .res_5_D => [0xCB, 0xAA]
  | .res_5_E => [0xCB, 0xAB]
  | .res_5_H => [0xCB, 0xAC]
  | .res_5_L => [0xCB, 0xAD]
  | .res_5_mHL => [0xCB, 0xAE]
  | .res_5_A => [0xCB, 0xAF]
  | .res_6_B => [0xCB, 0xB0]
  | .res_6_C => [0xCB, 0xB1]
  | .res_6_D => [0xCB, 0xB2]
  | .res_6_E => [0xCB, 0xB3]
  | .res_6_H => [0xCB, 0xB4]
  | .res_6_L => [0xCB, 0xB5]
  | .res_6_mHL => [0xCB, 0xB6]
  | .res_6_A => [0xCB, 0xB7]
  | .res_7_B => [0xCB, 0xB8]
  | .res_7_C => [0xCB, 0xB9]
  | .res_7_D => [0xCB, 0xBA]
  | .res_7_E => [0xCB, 0xBB]
  | .res_7_H => [0xCB, 0xBC]
  | .res_7_L => [0xCB, 0xBD]
  | .res_7_mHL => [0xCB, 0xBE]
  | .res_7_A => [0xCB, 0xBF]
  | .set_0_B => [0xCB, 0xC0]
  | .set_0_C => [0xCB, 0xC1]
  | .set_0_D => [0xCB, 0xC2]
  | .set_0_E => [0xCB, 0xC3]
  | .set_0_H => [0xCB, 0xC4]
  | .set_0_L => [0xCB, 0xC5]
  | .set_0_mHL => [0xCB, 0xC6]
  | .set_0_A => [0xCB, 0xC7]
  | .set_1_B => [0xCB, 0xC8]
  | .set_1_C => [0xCB, 0xC9]
  | .set_1_D => [0xCB, 0xCA]
  | .set_1_E => [0xCB, 0xCB]
  | .set_1_H => [0xCB, 0xCC]
  | .set_1_L => [0xCB, 0xCD]
  | .set_1_mHL => [0xCB, 0xCE]
  | .set_1_A => [0xCB, 0xCF]
  | .set_2_B => [0xCB, 0xD0]
  | .set_2_C => [0xCB, 0xD1]
  | .set_2_D => [0xCB, 0xD2]
  | .set_2_E => [0xCB, 0xD3]
  | .set_2_H => [0xCB, 0xD4]
  | .set_2_L => [0xCB, 0xD5]
  | .set_2_mHL => [0xCB, 0xD6]
  | .set_2_A => [0xCB, 0xD7]
  | .set_3_B => [0xCB, 0xD8]
  | .set_3_C => [0xCB, 0xD9]
  | .set_3_D => [0xCB, 0xDA]
  | .set_3_E => [0xCB, 0xDB]
  | .set_3_H => [0xCB, 0xDC]
  | .set_3_L => [0xCB, 0xDD]
  | .set_3_mHL => [0xCB, 0xDE]
  | .set_3_A => [0xCB, 0xDF]
  | .set_4_B => [0xCB, 0xE0]
  | .set_4_C => [0xCB, 0xE1]
  | .set_4_D => [0xCB, 0xE2]
  | .set_4_E => [0xCB, 0xE3]
  | .set_4_H => [0xCB, 0xE4]
  | .set_4_L => [0xCB, 0xE5]
  | .set_4_mHL => [0xCB, 0xE6]
  | .set_4_A => [0xCB, 0xE7]
  | .set_5_B => [0xCB, 0xE8]
  | .set_5_C => [0xCB, 0xE9]
  | .set_5_D => [0xCB, 0xEA]
  | .set_5_E => [0xCB, 0xEB]
  | .set_5_H => [0xCB, 0xEC]
  | .set_5_L => [0xCB, 0xED]
  | .set_5_mHL => [0xCB, 0xEE]
  | .set_5_A => [0xCB, 0xEF]
  | .set_6_B => [0xCB, 0xF0]
  | .set_6_C => [0xCB, 0xF1]
  | .set_6_D => [0xCB, 0xF2]
  | .set_6_E => [0xCB, 0xF3]
  | .set_6_H => [0xCB, 0xF4]
  | .set_6_L => [0xCB, 0xF5]
  | .set_6_mHL => [0xCB, 0xF6]
  | .set_6_A => [0xCB, 0xF7]
  | .set_7_B => [0xCB, 0xF8]
  | .set_7_C => [0xCB, 0xF9]
  | .set_7_D => [0xCB, 0xFA]
  | .set_7_E => [0xCB, 0xFB]
  | .set_7_H => [0xCB, 0xFC]
  | .set_7_L => [0xCB, 0xFD]
  | .set_7_mHL => [0xCB, 0xFE]
  | .set_7_A => [0xCB, 0xFF]

/-- The length of an instruction in bytes (R142). -/
def Instr.length (i : Instr) : Nat := (encode i).length

/-! ## The opcode table's own numbering of an instruction's bits -/

/-- The bytes that spec/opcode_table.json's number `w` of `nbits` bits stands for. Its rows are 8 bits wide (one opcode
byte) or, for the extended table, 16 bits wide with 0xCB in bits 15..8 and the second byte in bits 7..0 ("match":
"0xCB90" for the bytes CB 90): such a number is laid out high byte first. Any other number is laid out from its bit 0
upwards (log 11). The bytes the number does not reach are 0. -/
def tableBytes (nbits w : Nat) : List Byte :=
  let w := w % 2 ^ nbits
  if nbits = 16 ∧ w / 256 = 0xCB then [0xCB, BitVec.ofNat 8 w, 0]
  else [BitVec.ofNat 8 w, BitVec.ofNat 8 (w / 256), BitVec.ofNat 8 (w / 65536)]

/-- The instruction the decoder reads from the bytes of the table's number `w` of `nbits` bits. The row of the byte
0xCB is one byte long with no operand byte, so the decoder is given that byte alone (log 10); every other row is
followed by operand bytes of zeros. -/
def decodeTableWord (nbits w : Nat) : Option Instr :=
  let bytes := if nbits = 8 ∧ w % 256 = 0xCB then [0xCB] else tableBytes nbits w
  match decode bytes with
  | .ok (i, _) => some i
  | .error _ => none

end Sys2Proof
end

