-- ==== Sys2Proof/Config.lean ====
section
/-! DEFINITION. The named parameters of 00_scope.md R7. The spec fixes them for a run and counts them among
neither the registers nor the memory; the model carries them as one constant record in `State` (log 1), so that
a statement about every state is a statement about every setting of them. -/

namespace Sys2Proof

/-- `BOOT_REGS` (R7): the register values of power-on and of every host reset, with the spec's defaults (R60). -/
structure BootRegs where
  a  : Byte := 0x01
  f  : Byte := 0x80
  b  : Byte := 0x00
  c  : Byte := 0x13
  d  : Byte := 0x00
  e  : Byte := 0xD8
  h  : Byte := 0x01
  l  : Byte := 0x4D
  sp : Word := 0xFFFE
  pc : Word := 0x0100
  deriving DecidableEq, Repr

/-- One entry of `ENV_WRITES` (R7, R431): an address, the bits the environment may change there, and whether it
may only set them. -/
structure EnvPort where
  addr    : Word
  mask    : Byte
  setOnly : Bool
  deriving DecidableEq, Repr

/-- The parameters of R7 that are open or have more than one setting. The bank counts, initial banks and
persistence of ROM1 and ERAM come from the loader's commands (20_memory.md R102), and `INIT_MEM` is an argument of
`State.powerOn`. -/
structure Config where
  bootRegs          : BootRegs := {}
  /-- `IO_BOOT`: the I/O bytes (0xFF00 to 0xFF7F, and 0xFFFF) that power-on and reset set (D20); open, default
  none (log 4). -/
  ioBoot            : List (Word × Byte) := []
  /-- `INTERRUPT_DISPATCH` (R433). -/
  interruptDispatch : Bool := true
  /-- `HALT_BUG` (R398). -/
  haltBug           : Bool := true
  /-- `DI_IMMEDIATE` (R397). -/
  diImmediate       : Bool := false
  /-- `RETI_IMMEDIATE` (R362). -/
  retiImmediate     : Bool := false
  /-- `BIT_SETS_NH` (R331). -/
  bitSetsNH         : Bool := false
  /-- `WRAM1_BANKS`, at least 1 (R7). DESIGN CHOICE: the type admits 0, and nothing checks it (log 24). -/
  wram1Banks        : Nat := 1
  /-- `WRAM1_INIT_BANK` (R7). DESIGN CHOICE: nothing checks that it is below `WRAM1_BANKS` (log 24). -/
  wram1InitBank     : Nat := 0
  /-- `ENV_WRITES` (R431): LY (0xFF44) any value; IF (0xFF0F) set bits 0 to 4. -/
  envWrites         : List EnvPort := [⟨0xFF44, 0xFF, false⟩, ⟨0xFF0F, 0x1F, true⟩]
  deriving DecidableEq, Repr

/-- `ILLEGAL_READ_VALUE` (R7, R91): what a read that resolves to no storage returns. The source fixes it. -/
def illegalReadValue : Byte := 0xFF

end Sys2Proof
end

