-- ==== Sys2Proof/Machine/State.lean ====
section
/-! DEFINITION. The state of the block (10_state.md, 20_memory.md R80, R100), as plain data, the reasons a step can
stop, and the state after reset (R60). -/

namespace Sys2Proof.Machine

/-- Memory bytes by key, in canonical form: keys strictly rising, and no entry equal to what an unlisted key reads as
(`Memory.wf`). -/
abbrev Memory := List Host.Cell

/-- What the condition `IllegalOpcode` records (R421): the opcode byte and the PC it was fetched from. -/
structure Trap where
  opcode : Byte
  pc     : Word
  deriving DecidableEq, Repr

/-- The run mode (R51). -/
inductive Mode where
  | running | halted | stopped
  deriving DecidableEq, Repr

/-- What a `step` call returns (R477): `Ok(cycles)` or `Err(IllegalOpcode(opcode, pc))`. -/
inductive StepResult where
  | ok (cycles : Nat)
  | err (trap : Trap)
  deriving DecidableEq, Repr

/-- A switchable region (R57, R100): the number of banks, the current bank index, the bank index given at initialisation
(which a host reset restores, R475), and the bytes of all banks, byte `off` of bank `i` under the key
`i * size + off`. -/
structure Banked where
  count : Nat
  index : Nat
  init  : Nat
  data  : Memory
  deriving DecidableEq, Repr

/-- What has been loaded (R102, R103, R473): which initialisation commands have succeeded, and whether one returned an
error. -/
structure Loader where
  rom0   : Bool
  rom1   : Bool
  eram   : Bool
  failed : Bool
  deriving DecidableEq, Repr

/-- The whole state of the block. -/
structure State where
  /-- The accumulator (R40). -/
  a : Byte
  /-- The flags register (R46): Z, N, H, C in bits 7, 6, 5, 4; bits 3 to 0 always read as zero. -/
  f : Byte
  b : Byte
  c : Byte
  d : Byte
  e : Byte
  h : Byte
  l : Byte
  /-- The stack pointer (R41). -/
  sp : Word
  /-- The program counter (R41, R44). -/
  pc : Word
  /-- The interrupt master enable (R50). -/
  ime : Bool
  /-- The pending value of IME (R50): none, or the value to be applied at the next instruction step. -/
  imePending : Option Bool
  /-- The run mode (R51). -/
  mode : Mode
  /-- Set by HALT under the halt bug: the next opcode fetch does not advance PC (R52). -/
  haltBug : Bool
  /-- The recorded fatal condition (R53). -/
  fault : Option Trap
  /-- ROM0, VRAM, WRAM0, OAM, the I/O bytes, HRAM and IE (R80), by CPU address. -/
  mem : Memory
  /-- The switchable ROM banks (R100). -/
  rom1 : Banked
  /-- The switchable external RAM banks (R100). -/
  eram : Banked
  /-- The switchable work RAM banks (R100). -/
  wram1 : Banked
  /-- `ERAM.persistent` (R57, R101): read by no rule of the block. -/
  eramPersistent : Bool
  /-- `ERAM.dirty` (R57, R101). -/
  eramDirty : Bool
  /-- What has been loaded (R473). -/
  loader : Loader
  /-- The parameters of R7; written by no step and no host command (log 1). -/
  cfg : Config
  /-- The value the last `step` call returned (R477, R490), none before the first step; the model's own field, an output
  of the block (log 5). -/
  out : Option StepResult
  deriving DecidableEq, Repr

/-- Why the machine stops with a fault. -/
inductive Fault where
  /-- Raised by `step` alone, at a state whose `fault` is already set: no step is taken and the recorded
  `IllegalOpcode(opcode, pc)` is returned again (R53, R140 line 0, R477). The step that meets the illegal opcode is a
  next state, in which `fault` is set (R421). Safe: the spec says that no step is taken (log 6). -/
  | illegalOpcode (opcode : Byte) (pc : Word)
  deriving DecidableEq, Repr

/-- Why the model refuses. -/
inductive Refusal where
  /-- Raised by an arm of `exec` that has no meaning yet; no arm is left in that case. Safe: nothing can be proved of a run
  through it. -/
  | notModelled (mnemonic : String)
  /-- Raised by `step` before `initFixedROM` has succeeded: not a move of the host, "a model refuses it" (R473, R479).
  Safe (log 7). -/
  | notInitialised
  /-- Raised by `step` after an initialisation command has returned an error: the block is not started (R103, R473). Safe
  (log 7). -/
  | loadFailed
  deriving DecidableEq, Repr

/-- The outcome of a step of this machine. -/
abbrev Result := Host.Outcome State Fault Refusal

/-- The state after reset (R60, R470, with the parameters at their defaults): the block constructed and its ROM0 loaded
(R480), no other cartridge data loaded (log 2), and no byte of memory listed (log 3, log 4). -/
def State.reset : State where
  a := 0x01
  f := 0x80
  b := 0x00
  c := 0x13
  d := 0x00
  e := 0xD8
  h := 0x01
  l := 0x4D
  sp := 0xFFFE
  pc := 0x0100
  ime := false
  imePending := none
  mode := .running
  haltBug := false
  fault := none
  mem := []
  rom1 := ⟨0, 0, 0, []⟩
  eram := ⟨0, 0, 0, []⟩
  wram1 := ⟨1, 0, 0, []⟩
  eramPersistent := false
  eramDirty := false
  loader := ⟨true, false, false, false⟩
  cfg := {}
  out := none

end Sys2Proof.Machine
end

