-- ==== Sys2Proof/Machine/Memory.lean ====
section
/-! DEFINITION. The memory list: reading, writing, loading an image, and its canonical form. -/

namespace Sys2Proof.Machine

/-- What a key that is not listed reads as. The spec gives RAM, the I/O bytes and ROM no power-on contents (R472): this
is one draw of `INIT_MEM`, a DESIGN CHOICE, unsafe (log 3). -/
def unlistedByte : Byte := 0x00

/-- The byte under a key. -/
def Memory.read : Memory → Nat → Byte
  | [], _ => unlistedByte
  | (k, v) :: m, key => if key = k then v else Memory.read m key

/-- Writing the byte under a key, keeping the canonical form. -/
def Memory.write : Memory → Nat → Byte → Memory
  | [], key, v => if v = unlistedByte then [] else [(key, v)]
  | (k, w) :: m, key, v =>
    if key < k then
      if v = unlistedByte then (k, w) :: m else (key, v) :: (k, w) :: m
    else if key = k then
      if v = unlistedByte then m else (key, v) :: m
    else (k, w) :: Memory.write m key v

/-- The bytes of an image, the first at the key `base`. -/
def Memory.ofBytes : Nat → List Byte → Memory
  | _, [] => []
  | base, v :: vs => if v = unlistedByte then Memory.ofBytes (base + 1) vs else (base, v) :: Memory.ofBytes (base + 1) vs

/-- The entries whose key is at least `lo`. -/
def Memory.dropBelow (lo : Nat) (m : Memory) : Memory := m.filter fun cell => lo ≤ cell.1

/-- Every key is at least `lo`, the keys rise strictly, and no entry holds what an unlisted key reads as. -/
def Memory.risingFrom : Nat → Memory → Bool
  | _, [] => true
  | lo, (k, v) :: m => decide (lo ≤ k) && (v != unlistedByte) && Memory.risingFrom (k + 1) m

/-- The canonical form: equal memories are equal lists. -/
def Memory.wf (m : Memory) : Bool := Memory.risingFrom 0 m

end Sys2Proof.Machine
end

