-- ==== Sys2Proof/Machine/Ops.lean ====
section
/-! DEFINITION. The named operations over memory and control state: the address decoder (20_memory.md R86), the memory
primitives (R91, R92), the stack primitives (00_scope.md R13), interrupt entry and the return from it (60_exceptions.md
R425, 43_control.md R362), the illegal-opcode condition (R421), the fetch of an instruction (30_encoding.md R140, R141)
and the end of a step (R490). -/

namespace Sys2Proof.Machine

/-! ## The address decoder -/

/-- The regions of R80 that hold bytes. -/
inductive Region where
  | rom0 | rom1 | vram | eram | wram0 | wram1 | oam | io | hram | ie
  deriving DecidableEq, Repr

/-- The first address of a region's range (R80). -/
def Region.base : Region → Nat
  | .rom0 => 0x0000
  | .rom1 => 0x4000
  | .vram => 0x8000
  | .eram => 0xA000
  | .wram0 => 0xC000
  | .wram1 => 0xD000
  | .oam => 0xFE00
  | .io => 0xFF00
  | .hram => 0xFF80
  | .ie => 0xFFFF

/-- The size of a region, of one bank for a switchable region (R80, R100). -/
def Region.size : Region → Nat
  | .rom0 => 0x4000
  | .rom1 => 0x4000
  | .vram => 0x2000
  | .eram => 0x2000
  | .wram0 => 0x1000
  | .wram1 => 0x1000
  | .oam => 0xA0
  | .io => 0x80
  | .hram => 0x7F
  | .ie => 1

/-- What an address resolves to (R85): a storage byte, by region and offset (in a switchable region the offset into the
region's banks laid end to end), or the illegal fallback. -/
inductive Loc where
  | cell (r : Region) (off : Nat)
  | illegal
  deriving DecidableEq, Repr

/-- `Switch(X, off)` (R86): the byte of the current bank, or the illegal fallback when there is no valid bank (R88). -/
def Banked.locate (x : Banked) (r : Region) (off : Nat) : Loc :=
  if 0 < x.count ∧ x.index < x.count then .cell r (x.index * r.size + off) else .illegal

/-- `a in IO_TABLE` (R85): the I/O table holds the addresses 0xFF00 to 0xFF7F and 0xFFFF. -/
def inIoTable (a : Nat) : Bool := (0xFF00 ≤ a && a ≤ 0xFF7F) || a == 0xFFFF

/-- The cell of the I/O table (R85): the same storage byte as the region byte at that address. -/
def ioCell (a : Nat) : Loc := if a = 0xFFFF then .cell .ie 0 else .cell .io (a - 0xFF00)

/-- The ranges of R86, the echo apart. -/
def State.resolveRange (s : State) (a : Nat) : Loc :=
  if a ≤ 0x3FFF then .cell .rom0 a
  else if a ≤ 0x7FFF then s.rom1.locate .rom1 (a - 0x4000)
  else if a ≤ 0x9FFF then .cell .vram (a - 0x8000)
  else if a ≤ 0xBFFF then s.eram.locate .eram (a - 0xA000)
  else if a ≤ 0xCFFF then .cell .wram0 (a - 0xC000)
  else if a ≤ 0xDFFF then s.wram1.locate .wram1 (a - 0xD000)
  else if a ≤ 0xFDFF then .illegal
  else if a ≤ 0xFE9F then .cell .oam (a - 0xFE00)
  else if a ≤ 0xFEFF then .illegal
  else if a ≤ 0xFF7F then .cell .io (a - 0xFF00)
  else if a ≤ 0xFFFE then .cell .hram (a - 0xFF80)
  else .cell .ie 0

/-- `Resolve(a)` (R86): the I/O table first, then the echo's redirect to the address 0x2000 lower (R89), then the ranges. -/
def State.resolve (s : State) (addr : Word) : Loc :=
  let a := addr.toNat
  if inIoTable a then ioCell a
  else if 0xE000 ≤ a ∧ a ≤ 0xFDFF then s.resolveRange (a - 0x2000)
  else s.resolveRange a

/-! ## The memory primitives -/

/-- The byte stored at an offset of a region. -/
def State.loadCell (s : State) (r : Region) (off : Nat) : Byte :=
  match r with
  | .rom1 => s.rom1.data.read off
  | .eram => s.eram.data.read off
  | .wram1 => s.wram1.data.read off
  | r => s.mem.read (r.base + off)

/-- Storing a byte at an offset of a region, whatever the region. -/
def State.storeCell (s : State) (r : Region) (off : Nat) (v : Byte) : State :=
  match r with
  | .rom1 => { s with rom1 := { s.rom1 with data := s.rom1.data.write off v } }
  | .eram => { s with eram := { s.eram with data := s.eram.data.write off v } }
  | .wram1 => { s with wram1 := { s.wram1 with data := s.wram1.data.write off v } }
  | r => { s with mem := s.mem.write (r.base + off) v }

/-- The value read from what an address resolved to (R91). -/
def State.readLoc (s : State) : Loc → Byte
  | .cell r off => s.loadCell r off
  | .illegal => illegalReadValue

/-- `MemRead(a, 1)` (R91). -/
def State.readByte (s : State) (addr : Word) : Byte := s.readLoc (s.resolve addr)

/-- A write to what an address resolved to (R92): dropped at the illegal fallback and in ROM; a write that lands in an
ERAM bank sets `ERAM.dirty` (R101). -/
def State.writeLoc (s : State) (o : Loc) (v : Byte) : State :=
  match o with
  | .illegal => s
  | .cell .rom0 _ => s
  | .cell .rom1 _ => s
  | .cell .eram off => { s.storeCell .eram off v with eramDirty := true }
  | .cell r off => s.storeCell r off v

/-- `MemWrite(a, 1, v)` (R92). -/
def State.writeByte (s : State) (addr : Word) (v : Byte) : State := s.writeLoc (s.resolve addr) v

/-- `MemRead(a, 2)` (R11): the low byte at the address, the high byte at the next. -/
def State.readWord (s : State) (addr : Word) : Word := join (s.readByte (addr + 1)) (s.readByte addr)

/-- `MemWrite(a, 2, v)` (R11): the low byte at the address first, then the high byte at the next. -/
def State.writeWord (s : State) (addr : Word) (v : Word) : State :=
  (s.writeByte addr (loByte v)).writeByte (addr + 1) (hiByte v)

/-! ## The stack primitives -/

/-- `Push16(v)` (R13): the high byte at SP-1, then the low byte at SP-2; SP decreases by 2. -/
def State.push16 (s : State) (v : Word) : State :=
  let s1 := s.writeByte (s.sp - 1) (hiByte v)
  let s2 := s1.writeByte (s.sp - 2) (loByte v)
  { s2 with sp := s.sp - 2 }

/-- The value `Pop16()` returns (R13): the low byte at SP, the high byte at SP+1. -/
def State.popValue (s : State) : Word := s.readWord s.sp

/-- What `Pop16()` does to SP (R13). -/
def State.popSp (s : State) : State := { s with sp := s.sp + 2 }

/-! ## The end of a step -/

/-- `cycles <- n` (R14, R490): the step is complete and returns `Ok(n)` (R477). -/
def State.withCycles (s : State) (n : Nat) : State := { s with out := some (.ok n) }

/-- The step completes with the cycle count `n`. -/
def State.retire (s : State) (n : Nat) : Result := .next (s.withCycles n)

/-! ## Interrupts -/

/-- The interrupt-enable byte (R55). -/
def addrIE : Word := 0xFFFF
/-- The interrupt-flag byte (R55). -/
def addrIF : Word := 0xFF0F

/-- `req = IE & IF & 0x1F` (R140 line 1, R424). -/
def State.req (s : State) : Byte := s.readByte addrIE &&& s.readByte addrIF &&& 0x1F

/-- The lowest bit number set among bits 0 to 4 (R425, R427). -/
def lowestLine (req : Byte) : Nat :=
  if req.getLsbD 0 then 0
  else if req.getLsbD 1 then 1
  else if req.getLsbD 2 then 2
  else if req.getLsbD 3 then 3
  else 4

/-- The vector of line `n` (R424): 0x40 + 8n. -/
def interruptVector (n : Nat) : Word := BitVec.ofNat 16 (0x40 + 8 * n)

/-- Taking an interrupt, `InterruptEntry(req)` (R425): the request of the lowest line is cleared in IF, IME and its pending
value are cleared, PC is pushed, and PC becomes the line's vector. A halted block returns to Running first (R140 line
3, R426). -/
def State.interruptEntry (s : State) : State :=
  let n := lowestLine s.req
  let s1 := s.writeByte addrIF (s.readByte addrIF &&& ~~~(1#8 <<< n))
  let s2 := { s1 with mode := .running, ime := false, imePending := none }
  let s3 := s2.push16 s2.pc
  { s3 with pc := interruptVector n }.withCycles 20

/-- An interrupt is entered at this step (R140 line 4, R424). -/
def State.interruptDue (s : State) : Bool := s.cfg.interruptDispatch && (s.ime && s.req != 0)

/-- The return from an interrupt handler (R362, R430): PC is popped, and IME is enabled at once or one instruction later. It
restores nothing else. -/
def State.returnFromInterrupt (s : State) : State :=
  let s1 := { s.popSp with pc := s.popValue }
  if s.cfg.retiImmediate then { s1 with ime := true } else { s1 with imePending := some true }

/-! ## The illegal opcode -/

/-- `raise IllegalOpcode(op, pc0)` (R14, R421), at the state before the step, where PC is pc0: nothing changes but `fault`;
the step returns the error instead of a cycle count. -/
def State.raiseIllegal (s : State) (op : Byte) : State :=
  { s with fault := some ⟨op, s.pc⟩, out := some (.err ⟨op, s.pc⟩) }

/-! ## Fetching an instruction -/

/-- Where the byte after the opcode is fetched from (R141): the next address, or the opcode's own address when the halt bug
keeps PC from advancing. -/
def State.operandPc (s : State) : Word := if s.haltBug then s.pc else s.pc + 1

/-- The instruction at PC (R140 line 6): the opcode byte and the two bytes after it in fetch order. Reading a byte the
instruction does not have changes nothing (R120; log 8). -/
def State.fetchInstr (s : State) : Instr :=
  decodeOp (s.readByte s.pc) (s.readByte s.operandPc) (s.readByte (s.operandPc + 1))

/-- The state an instruction's meaning starts from (R140 lines 3, 5 and 6): a halted block is Running again, the pending
IME value is applied, PC is past the instruction's bytes, and the halt bug is spent. For an illegal opcode it is the
state before the step, all of whose effects are discarded (R421). -/
def State.issue (s : State) (i : Instr) : State :=
  if i.isIllegal then s
  else
    { s with
      mode := .running
      ime := s.imePending.getD s.ime
      imePending := none
      pc := s.operandPc + BitVec.ofNat 16 (i.length - 1)
      haltBug := false }

end Sys2Proof.Machine
end

