-- ==== Sys2Proof/Machine/Operands.lean ====
section
/-! DEFINITION. The operand forms: the 8-bit registers (R146), the 16-bit pairs as views (10_state.md R42), the flags as
bits of F (R46, R47), the conditions (R149) and the effective addresses (40_load.md R200). -/

namespace Sys2Proof.Machine

/-! ## Registers -/

/-- `R[r]` (R10, R146). -/
def State.reg (s : State) : Reg8 → Byte
  | .b => s.b
  | .c => s.c
  | .d => s.d
  | .e => s.e
  | .h => s.h
  | .l => s.l
  | .a => s.a

/-- `R[r] <- v` (R10, R146). -/
def State.setReg (s : State) (r : Reg8) (v : Byte) : State :=
  match r with
  | .b => { s with b := v }
  | .c => { s with c := v }
  | .d => { s with d := v }
  | .e => { s with e := v }
  | .h => { s with h := v }
  | .l => { s with l := v }
  | .a => { s with a := v }

/-- F as it reads (R46): bits 3 to 0 are always zero. -/
def State.flagByte (s : State) : Byte := s.f &&& 0xF0

/-- Every write of F (R46) stores `v & 0xF0`. -/
def State.setF (s : State) (v : Byte) : State := { s with f := v &&& 0xF0 }

/-- The pair BC (R42). -/
def State.bc (s : State) : Word := join s.b s.c
/-- The pair DE (R42). -/
def State.de (s : State) : Word := join s.d s.e
/-- The pair HL (R42). -/
def State.hl (s : State) : Word := join s.h s.l
/-- The pair AF (R42). -/
def State.af (s : State) : Word := join s.a s.flagByte

/-- `HL <- v` (R42). -/
def State.setHL (s : State) (v : Word) : State := { s with h := hiByte v, l := loByte v }

/-- `RR[rr]` (R10, R147). -/
def State.pair (s : State) : Pair → Word
  | .bc => s.bc
  | .de => s.de
  | .hl => s.hl
  | .sp => s.sp

/-- `RR[rr] <- v` (R10, R42, R147). -/
def State.setPair (s : State) (p : Pair) (v : Word) : State :=
  match p with
  | .bc => { s with b := hiByte v, c := loByte v }
  | .de => { s with d := hiByte v, e := loByte v }
  | .hl => s.setHL v
  | .sp => { s with sp := v }

/-- `RR[qq]` (R10, R148). -/
def State.stackPair (s : State) : StackPair → Word
  | .bc => s.bc
  | .de => s.de
  | .hl => s.hl
  | .af => s.af

/-- `RR[qq] <- v` (R42, R148); the low byte of AF obeys R46. -/
def State.setStackPair (s : State) (q : StackPair) (v : Word) : State :=
  match q with
  | .bc => { s with b := hiByte v, c := loByte v }
  | .de => { s with d := hiByte v, e := loByte v }
  | .hl => s.setHL v
  | .af => { s with a := hiByte v }.setF (loByte v)

/-! ## Flags -/

/-- The zero flag Z (R47). -/
def State.zf (s : State) : Bool := s.f.getLsbD 7
/-- The subtract flag N (R47). -/
def State.nf (s : State) : Bool := s.f.getLsbD 6
/-- The half-carry flag H (R47). -/
def State.hf (s : State) : Bool := s.f.getLsbD 5
/-- The carry flag C (R47). -/
def State.cf (s : State) : Bool := s.f.getLsbD 4

/-- The packed form of the four flags (R47). -/
def packFlags (z n h c : Bool) : Byte :=
  (bitByte z <<< 7) ||| (bitByte n <<< 6) ||| (bitByte h <<< 5) ||| (bitByte c <<< 4)

/-- Writing the four flags (R47). -/
def State.setFlags (s : State) (z n h c : Bool) : State := { s with f := packFlags z n h c }

/-- The predicate of a condition (R149). -/
def State.cond (s : State) : Cond → Bool
  | .nz => !s.zf
  | .z => s.zf
  | .nc => !s.cf
  | .c => s.cf

/-! ## Effective addresses -/

/-- The high page `0xFF00 + a8` of `LDH` (R152, R200). -/
def highPage (off : Byte) : Word := 0xFF00 + zext16 off

end Sys2Proof.Machine
end

