-- ==== Sys2Proof/Machine/Arith.lean ====
section
/-! DEFINITION. Arithmetic and logic (41_arithmetic.md R260 to R291). Every operand, the carry-in among them, is read before
anything is written (R256). -/

namespace Sys2Proof.Machine

/-! ## The shared forms -/

/-- Writing the four flags of an 8-bit result. -/
def State.setResFlags (s : State) (r : Res8) : State := s.setFlags r.z r.n r.h r.c

/-- An ALU operation on A and the operand `v` (R260 to R283): A and the flags are written; CP does not write A (R281). -/
def aluWith (op : AluOp) (v : Byte) (cycles : Nat) (s : State) : Result :=
  let r := alu op s.a v s.cf
  ((if op = .cp then s else { s with a := r.value }).setResFlags r).retire cycles

/-- The register forms (R260 to R281). -/
def aluReg (op : AluOp) (src : Reg8) (s : State) : Result := aluWith op (s.reg src) 4 s

/-- The `[HL]` forms (R261 to R282). -/
def aluHL (op : AluOp) (s : State) : Result := aluWith op (s.readByte s.hl) 8 s

/-- The immediate forms (R262 to R283). -/
def aluImm (op : AluOp) (n : Byte) (s : State) : Result := aluWith op n 8 s

/-- `INC r` (R284). -/
def incReg (dst : Reg8) (s : State) : Result :=
  let r := inc8 (s.reg dst) s.cf
  ((s.setReg dst r.value).setResFlags r).retire 4

/-- `INC [HL]` (R285): a dropped write still writes the flags. -/
def incHL (s : State) : Result :=
  let r := inc8 (s.readByte s.hl) s.cf
  ((s.writeByte s.hl r.value).setResFlags r).retire 12

/-- `DEC r` (R286). -/
def decReg (dst : Reg8) (s : State) : Result :=
  let r := dec8 (s.reg dst) s.cf
  ((s.setReg dst r.value).setResFlags r).retire 4

/-- `DEC [HL]` (R287). -/
def decHL (s : State) : Result :=
  let r := dec8 (s.readByte s.hl) s.cf
  ((s.writeByte s.hl r.value).setResFlags r).retire 12

/-- `ADD HL,rr` (R288): Z is left as it was. -/
def addHL (src : Pair) (s : State) : Result :=
  let r := add16 s.hl (s.pair src)
  ((s.setHL r.value).setFlags s.zf false r.h r.c).retire 8

/-- `INC rr` (R289): no flag is written. -/
def incPair (dst : Pair) (s : State) : Result := (s.setPair dst (s.pair dst + 1)).retire 8

/-- `DEC rr` (R290): no flag is written. -/
def decPair (dst : Pair) (s : State) : Result := (s.setPair dst (s.pair dst - 1)).retire 8

/-- `ADD SP,s8` (R291). -/
def addSp (e : Byte) (s : State) : Result :=
  let r := addSPe s.sp e
  ({ s with sp := r.value }.setFlags false false r.h r.c).retire 16

/-! ## The instructions -/

/-- 03 `INC BC` (R289). -/
def execInc_BC (s : State) : Result := incPair .bc s

/-- 04 `INC B` (R284). -/
def execInc_B (s : State) : Result := incReg .b s

/-- 05 `DEC B` (R286). -/
def execDec_B (s : State) : Result := decReg .b s

/-- 09 `ADD HL,BC` (R288). -/
def execAdd_HL_BC (s : State) : Result := addHL .bc s

/-- 0B `DEC BC` (R290). -/
def execDec_BC (s : State) : Result := decPair .bc s

/-- 0C `INC C` (R284). -/
def execInc_C (s : State) : Result := incReg .c s

/-- 0D `DEC C` (R286). -/
def execDec_C (s : State) : Result := decReg .c s

/-- 13 `INC DE` (R289). -/
def execInc_DE (s : State) : Result := incPair .de s

/-- 14 `INC D` (R284). -/
def execInc_D (s : State) : Result := incReg .d s

/-- 15 `DEC D` (R286). -/
def execDec_D (s : State) : Result := decReg .d s

/-- 19 `ADD HL,DE` (R288). -/
def execAdd_HL_DE (s : State) : Result := addHL .de s

/-- 1B `DEC DE` (R290). -/
def execDec_DE (s : State) : Result := decPair .de s

/-- 1C `INC E` (R284). -/
def execInc_E (s : State) : Result := incReg .e s

/-- 1D `DEC E` (R286). -/
def execDec_E (s : State) : Result := decReg .e s

/-- 23 `INC HL` (R289). -/
def execInc_HL (s : State) : Result := incPair .hl s

/-- 24 `INC H` (R284). -/
def execInc_H (s : State) : Result := incReg .h s

/-- 25 `DEC H` (R286). -/
def execDec_H (s : State) : Result := decReg .h s

/-- 29 `ADD HL,HL` (R288). -/
def execAdd_HL_HL (s : State) : Result := addHL .hl s

/-- 2B `DEC HL` (R290). -/
def execDec_HL (s : State) : Result := decPair .hl s

/-- 2C `INC L` (R284). -/
def execInc_L (s : State) : Result := incReg .l s

/-- 2D `DEC L` (R286). -/
def execDec_L (s : State) : Result := decReg .l s

/-- 33 `INC SP` (R289). -/
def execInc_SP (s : State) : Result := incPair .sp s

/-- 34 `INC [HL]` (R285). -/
def execInc_mHL (s : State) : Result := incHL s

/-- 35 `DEC [HL]` (R287). -/
def execDec_mHL (s : State) : Result := decHL s

/-- 39 `ADD HL,SP` (R288). -/
def execAdd_HL_SP (s : State) : Result := addHL .sp s

/-- 3B `DEC SP` (R290). -/
def execDec_SP (s : State) : Result := decPair .sp s

/-- 3C `INC A` (R284). -/
def execInc_A (s : State) : Result := incReg .a s

/-- 3D `DEC A` (R286). -/
def execDec_A (s : State) : Result := decReg .a s

/-- 80 `ADD A,B` (R260). -/
def execAdd_A_B (s : State) : Result := aluReg .add .b s

/-- 81 `ADD A,C` (R260). -/
def execAdd_A_C (s : State) : Result := aluReg .add .c s

/-- 82 `ADD A,D` (R260). -/
def execAdd_A_D (s : State) : Result := aluReg .add .d s

/-- 83 `ADD A,E` (R260). -/
def execAdd_A_E (s : State) : Result := aluReg .add .e s

/-- 84 `ADD A,H` (R260). -/
def execAdd_A_H (s : State) : Result := aluReg .add .h s

/-- 85 `ADD A,L` (R260). -/
def execAdd_A_L (s : State) : Result := aluReg .add .l s

/-- 86 `ADD A,[HL]` (R261). -/
def execAdd_A_mHL (s : State) : Result := aluHL .add s

/-- 87 `ADD A,A` (R260). -/
def execAdd_A_A (s : State) : Result := aluReg .add .a s

/-- 88 `ADC A,B` (R263). -/
def execAdc_A_B (s : State) : Result := aluReg .adc .b s

/-- 89 `ADC A,C` (R263). -/
def execAdc_A_C (s : State) : Result := aluReg .adc .c s

/-- 8A `ADC A,D` (R263). -/
def execAdc_A_D (s : State) : Result := aluReg .adc .d s

/-- 8B `ADC A,E` (R263). -/
def execAdc_A_E (s : State) : Result := aluReg .adc .e s

/-- 8C `ADC A,H` (R263). -/
def execAdc_A_H (s : State) : Result := aluReg .adc .h s

/-- 8D `ADC A,L` (R263). -/
def execAdc_A_L (s : State) : Result := aluReg .adc .l s

/-- 8E `ADC A,[HL]` (R264). -/
def execAdc_A_mHL (s : State) : Result := aluHL .adc s

/-- 8F `ADC A,A` (R263). -/
def execAdc_A_A (s : State) : Result := aluReg .adc .a s

/-- 90 `SUB B` (R266). -/
def execSub_B (s : State) : Result := aluReg .sub .b s

/-- 91 `SUB C` (R266). -/
def execSub_C (s : State) : Result := aluReg .sub .c s

/-- 92 `SUB D` (R266). -/
def execSub_D (s : State) : Result := aluReg .sub .d s

/-- 93 `SUB E` (R266). -/
def execSub_E (s : State) : Result := aluReg .sub .e s

/-- 94 `SUB H` (R266). -/
def execSub_H (s : State) : Result := aluReg .sub .h s

/-- 95 `SUB L` (R266). -/
def execSub_L (s : State) : Result := aluReg .sub .l s

/-- 96 `SUB [HL]` (R267). -/
def execSub_mHL (s : State) : Result := aluHL .sub s

/-- 97 `SUB A` (R266). -/
def execSub_A (s : State) : Result := aluReg .sub .a s

/-- 98 `SBC A,B` (R269). -/
def execSbc_A_B (s : State) : Result := aluReg .sbc .b s

/-- 99 `SBC A,C` (R269). -/
def execSbc_A_C (s : State) : Result := aluReg .sbc .c s

/-- 9A `SBC A,D` (R269). -/
def execSbc_A_D (s : State) : Result := aluReg .sbc .d s

/-- 9B `SBC A,E` (R269). -/
def execSbc_A_E (s : State) : Result := aluReg .sbc .e s

/-- 9C `SBC A,H` (R269). -/
def execSbc_A_H (s : State) : Result := aluReg .sbc .h s

/-- 9D `SBC A,L` (R269). -/
def execSbc_A_L (s : State) : Result := aluReg .sbc .l s

/-- 9E `SBC A,[HL]` (R270). -/
def execSbc_A_mHL (s : State) : Result := aluHL .sbc s

/-- 9F `SBC A,A` (R269). -/
def execSbc_A_A (s : State) : Result := aluReg .sbc .a s

/-- A0 `AND B` (R272). -/
def execAnd_B (s : State) : Result := aluReg .and .b s

/-- A1 `AND C` (R272). -/
def execAnd_C (s : State) : Result := aluReg .and .c s

/-- A2 `AND D` (R272). -/
def execAnd_D (s : State) : Result := aluReg .and .d s

/-- A3 `AND E` (R272). -/
def execAnd_E (s : State) : Result := aluReg .and .e s

/-- A4 `AND H` (R272). -/
def execAnd_H (s : State) : Result := aluReg .and .h s

/-- A5 `AND L` (R272). -/
def execAnd_L (s : State) : Result := aluReg .and .l s

/-- A6 `AND [HL]` (R273). -/
def execAnd_mHL (s : State) : Result := aluHL .and s

/-- A7 `AND A` (R272). -/
def execAnd_A (s : State) : Result := aluReg .and .a s

/-- A8 `XOR B` (R275). -/
def execXor_B (s : State) : Result := aluReg .xor .b s

/-- A9 `XOR C` (R275). -/
def execXor_C (s : State) : Result := aluReg .xor .c s

/-- AA `XOR D` (R275). -/
def execXor_D (s : State) : Result := aluReg .xor .d s

/-- AB `XOR E` (R275). -/
def execXor_E (s : State) : Result := aluReg .xor .e s

/-- AC `XOR H` (R275). -/
def execXor_H (s : State) : Result := aluReg .xor .h s

/-- AD `XOR L` (R275). -/
def execXor_L (s : State) : Result := aluReg .xor .l s

/-- AE `XOR [HL]` (R276). -/
def execXor_mHL (s : State) : Result := aluHL .xor s

/-- AF `XOR A` (R275). -/
def execXor_A (s : State) : Result := aluReg .xor .a s

/-- B0 `OR B` (R278). -/
def execOr_B (s : State) : Result := aluReg .or .b s

/-- B1 `OR C` (R278). -/
def execOr_C (s : State) : Result := aluReg .or .c s

/-- B2 `OR D` (R278). -/
def execOr_D (s : State) : Result := aluReg .or .d s

/-- B3 `OR E` (R278). -/
def execOr_E (s : State) : Result := aluReg .or .e s

/-- B4 `OR H` (R278). -/
def execOr_H (s : State) : Result := aluReg .or .h s

/-- B5 `OR L` (R278). -/
def execOr_L (s : State) : Result := aluReg .or .l s

/-- B6 `OR [HL]` (R279). -/
def execOr_mHL (s : State) : Result := aluHL .or s

/-- B7 `OR A` (R278). -/
def execOr_A (s : State) : Result := aluReg .or .a s

/-- B8 `CP B` (R281). -/
def execCp_B (s : State) : Result := aluReg .cp .b s

/-- B9 `CP C` (R281). -/
def execCp_C (s : State) : Result := aluReg .cp .c s

/-- BA `CP D` (R281). -/
def execCp_D (s : State) : Result := aluReg .cp .d s

/-- BB `CP E` (R281). -/
def execCp_E (s : State) : Result := aluReg .cp .e s

/-- BC `CP H` (R281). -/
def execCp_H (s : State) : Result := aluReg .cp .h s

/-- BD `CP L` (R281). -/
def execCp_L (s : State) : Result := aluReg .cp .l s

/-- BE `CP [HL]` (R282). -/
def execCp_mHL (s : State) : Result := aluHL .cp s

/-- BF `CP A` (R281). -/
def execCp_A (s : State) : Result := aluReg .cp .a s

/-- C6 `ADD A,d8` (R262). -/
def execAdd_A_d8 (d8 : Byte) (s : State) : Result := aluImm .add d8 s

/-- CE `ADC A,d8` (R265). -/
def execAdc_A_d8 (d8 : Byte) (s : State) : Result := aluImm .adc d8 s

/-- D6 `SUB d8` (R268). -/
def execSub_d8 (d8 : Byte) (s : State) : Result := aluImm .sub d8 s

/-- DE `SBC A,d8` (R271). -/
def execSbc_A_d8 (d8 : Byte) (s : State) : Result := aluImm .sbc d8 s

/-- E6 `AND d8` (R274). -/
def execAnd_d8 (d8 : Byte) (s : State) : Result := aluImm .and d8 s

/-- E8 `ADD SP,s8` (R291). -/
def execAdd_SP_s8 (s8 : Byte) (s : State) : Result := addSp s8 s

/-- EE `XOR d8` (R277). -/
def execXor_d8 (d8 : Byte) (s : State) : Result := aluImm .xor d8 s

/-- F6 `OR d8` (R280). -/
def execOr_d8 (d8 : Byte) (s : State) : Result := aluImm .or d8 s

/-- FE `CP d8` (R283). -/
def execCp_d8 (d8 : Byte) (s : State) : Result := aluImm .cp d8 s

end Sys2Proof.Machine
end

