-- ==== Sys2Proof/Machine/BitRotate.lean ====
section
/-! DEFINITION. Rotate, shift and bit instructions (42_bit_rotate.md R311 to R336), and the byte 0xCB that introduces the
extended table (30_encoding.md R140, R141). Cycle counts are those of R492. -/

namespace Sys2Proof.Machine

/-! ## The shared forms -/

/-- RLCA, RRCA, RLA, RRA (R311 to R314): Z is 0 whatever the result. -/
def rotateA (op : ShiftOp) (s : State) : Result :=
  let r := shift op s.a s.cf
  ({ s with a := r.1 }.setFlags false false false r.2).retire 4

/-- The extended rotates and shifts on a register (R315 to R329). -/
def shiftReg (op : ShiftOp) (dst : Reg8) (s : State) : Result :=
  let r := shift op (s.reg dst) s.cf
  ((s.setReg dst r.1).setFlags (r.1 == 0) false false r.2).retire 8

/-- The extended rotates and shifts on `[HL]` (R316 to R330): a dropped write still writes the flags. -/
def shiftHL (op : ShiftOp) (s : State) : Result :=
  let r := shift op (s.readByte s.hl) s.cf
  ((s.writeByte s.hl r.1).setFlags (r.1 == 0) false false r.2).retire 16

/-- The flags BIT writes (R331): Z, and under `BIT_SETS_NH` also N = 0 and H = 1. -/
def State.setBitFlags (s : State) (b : Fin 8) (v : Byte) : State :=
  if s.cfg.bitSetsNH then s.setFlags (!v.getLsbD b) false true s.cf
  else s.setFlags (!v.getLsbD b) s.nf s.hf s.cf

/-- `BIT b,r` (R331). -/
def bitReg (b : Fin 8) (src : Reg8) (s : State) : Result := (s.setBitFlags b (s.reg src)).retire 8

/-- `BIT b,[HL]` (R332). -/
def bitHL (b : Fin 8) (s : State) : Result := (s.setBitFlags b (s.readByte s.hl)).retire 12

/-- `RES b,r` (R333). -/
def resReg (b : Fin 8) (dst : Reg8) (s : State) : Result := (s.setReg dst (resetBit b (s.reg dst))).retire 8

/-- `RES b,[HL]` (R334): the byte is written back even when unchanged. -/
def resHL (b : Fin 8) (s : State) : Result := (s.writeByte s.hl (resetBit b (s.readByte s.hl))).retire 16

/-- `SET b,r` (R335). -/
def setReg (b : Fin 8) (dst : Reg8) (s : State) : Result := (s.setReg dst (setBit b (s.reg dst))).retire 8

/-- `SET b,[HL]` (R336). -/
def setHL (b : Fin 8) (s : State) : Result := (s.writeByte s.hl (setBit b (s.readByte s.hl))).retire 16

/-- `execute extended[op2]` (R140 line 6), by the fields of op2 (R145). -/
def extendedOp (op2 : Byte) (s : State) : Result :=
  match fieldX op2, operand8Field (fieldZ op2) with
  | 0, .reg r => shiftReg (shiftField (fieldY op2)) r s
  | 0, .mHL => shiftHL (shiftField (fieldY op2)) s
  | 1, .reg r => bitReg (fin8Field (fieldY op2)) r s
  | 1, .mHL => bitHL (fin8Field (fieldY op2)) s
  | 2, .reg r => resReg (fin8Field (fieldY op2)) r s
  | 2, .mHL => resHL (fin8Field (fieldY op2)) s
  | _, .reg r => setReg (fin8Field (fieldY op2)) r s
  | _, .mHL => setHL (fin8Field (fieldY op2)) s

/-- After the byte 0xCB: `op2 <- FetchByte(); execute extended[op2]` (R140 line 6, R141; log 10). -/
def extended (s : State) : Result := extendedOp (s.readByte s.pc) { s with pc := s.pc + 1 }

/-! ## The instructions -/

/-- 07 `RLCA` (R311). -/
def execRlca (s : State) : Result := rotateA .rlc s

/-- 0F `RRCA` (R312). -/
def execRrca (s : State) : Result := rotateA .rrc s

/-- 17 `RLA` (R313). -/
def execRla (s : State) : Result := rotateA .rl s

/-- 1F `RRA` (R314). -/
def execRra (s : State) : Result := rotateA .rr s

/-- CB `PREFIX CB` (R140). -/
def execPrefixCB (s : State) : Result := extended s

/-- CB 00 `RLC B` (R315). -/
def execRlc_B (s : State) : Result := shiftReg .rlc .b s

/-- CB 01 `RLC C` (R315). -/
def execRlc_C (s : State) : Result := shiftReg .rlc .c s

/-- CB 02 `RLC D` (R315). -/
def execRlc_D (s : State) : Result := shiftReg .rlc .d s

/-- CB 03 `RLC E` (R315). -/
def execRlc_E (s : State) : Result := shiftReg .rlc .e s

/-- CB 04 `RLC H` (R315). -/
def execRlc_H (s : State) : Result := shiftReg .rlc .h s

/-- CB 05 `RLC L` (R315). -/
def execRlc_L (s : State) : Result := shiftReg .rlc .l s

/-- CB 06 `RLC [HL]` (R316). -/
def execRlc_mHL (s : State) : Result := shiftHL .rlc s

/-- CB 07 `RLC A` (R315). -/
def execRlc_A (s : State) : Result := shiftReg .rlc .a s

/-- CB 08 `RRC B` (R317). -/
def execRrc_B (s : State) : Result := shiftReg .rrc .b s

/-- CB 09 `RRC C` (R317). -/
def execRrc_C (s : State) : Result := shiftReg .rrc .c s

/-- CB 0A `RRC D` (R317). -/
def execRrc_D (s : State) : Result := shiftReg .rrc .d s

/-- CB 0B `RRC E` (R317). -/
def execRrc_E (s : State) : Result := shiftReg .rrc .e s

/-- CB 0C `RRC H` (R317). -/
def execRrc_H (s : State) : Result := shiftReg .rrc .h s

/-- CB 0D `RRC L` (R317). -/
def execRrc_L (s : State) : Result := shiftReg .rrc .l s

/-- CB 0E `RRC [HL]` (R318). -/
def execRrc_mHL (s : State) : Result := shiftHL .rrc s

/-- CB 0F `RRC A` (R317). -/
def execRrc_A (s : State) : Result := shiftReg .rrc .a s

/-- CB 10 `RL B` (R319). -/
def execRl_B (s : State) : Result := shiftReg .rl .b s

/-- CB 11 `RL C` (R319). -/
def execRl_C (s : State) : Result := shiftReg .rl .c s

/-- CB 12 `RL D` (R319). -/
def execRl_D (s : State) : Result := shiftReg .rl .d s

/-- CB 13 `RL E` (R319). -/
def execRl_E (s : State) : Result := shiftReg .rl .e s

/-- CB 14 `RL H` (R319). -/
def execRl_H (s : State) : Result := shiftReg .rl .h s

/-- CB 15 `RL L` (R319). -/
def execRl_L (s : State) : Result := shiftReg .rl .l s

/-- CB 16 `RL [HL]` (R320). -/
def execRl_mHL (s : State) : Result := shiftHL .rl s

/-- CB 17 `RL A` (R319). -/
def execRl_A (s : State) : Result := shiftReg .rl .a s

/-- CB 18 `RR B` (R321). -/
def execRr_B (s : State) : Result := shiftReg .rr .b s

/-- CB 19 `RR C` (R321). -/
def execRr_C (s : State) : Result := shiftReg .rr .c s

/-- CB 1A `RR D` (R321). -/
def execRr_D (s : State) : Result := shiftReg .rr .d s

/-- CB 1B `RR E` (R321). -/
def execRr_E (s : State) : Result := shiftReg .rr .e s

/-- CB 1C `RR H` (R321). -/
def execRr_H (s : State) : Result := shiftReg .rr .h s

/-- CB 1D `RR L` (R321). -/
def execRr_L (s : State) : Result := shiftReg .rr .l s

/-- CB 1E `RR [HL]` (R322). -/
def execRr_mHL (s : State) : Result := shiftHL .rr s

/-- CB 1F `RR A` (R321). -/
def execRr_A (s : State) : Result := shiftReg .rr .a s

/-- CB 20 `SLA B` (R323). -/
def execSla_B (s : State) : Result := shiftReg .sla .b s

/-- CB 21 `SLA C` (R323). -/
def execSla_C (s : State) : Result := shiftReg .sla .c s

/-- CB 22 `SLA D` (R323). -/
def execSla_D (s : State) : Result := shiftReg .sla .d s

/-- CB 23 `SLA E` (R323). -/
def execSla_E (s : State) : Result := shiftReg .sla .e s

/-- CB 24 `SLA H` (R323). -/
def execSla_H (s : State) : Result := shiftReg .sla .h s

/-- CB 25 `SLA L` (R323). -/
def execSla_L (s : State) : Result := shiftReg .sla .l s

/-- CB 26 `SLA [HL]` (R324). -/
def execSla_mHL (s : State) : Result := shiftHL .sla s

/-- CB 27 `SLA A` (R323). -/
def execSla_A (s : State) : Result := shiftReg .sla .a s

/-- CB 28 `SRA B` (R325). -/
def execSra_B (s : State) : Result := shiftReg .sra .b s

/-- CB 29 `SRA C` (R325). -/
def execSra_C (s : State) : Result := shiftReg .sra .c s

/-- CB 2A `SRA D` (R325). -/
def execSra_D (s : State) : Result := shiftReg .sra .d s

/-- CB 2B `SRA E` (R325). -/
def execSra_E (s : State) : Result := shiftReg .sra .e s

/-- CB 2C `SRA H` (R325). -/
def execSra_H (s : State) : Result := shiftReg .sra .h s

/-- CB 2D `SRA L` (R325). -/
def execSra_L (s : State) : Result := shiftReg .sra .l s

/-- CB 2E `SRA [HL]` (R326). -/
def execSra_mHL (s : State) : Result := shiftHL .sra s

/-- CB 2F `SRA A` (R325). -/
def execSra_A (s : State) : Result := shiftReg .sra .a s

/-- CB 30 `SWAP B` (R327). -/
def execSwap_B (s : State) : Result := shiftReg .swap .b s

/-- CB 31 `SWAP C` (R327). -/
def execSwap_C (s : State) : Result := shiftReg .swap .c s

/-- CB 32 `SWAP D` (R327). -/
def execSwap_D (s : State) : Result := shiftReg .swap .d s

/-- CB 33 `SWAP E` (R327). -/
def execSwap_E (s : State) : Result := shiftReg .swap .e s

/-- CB 34 `SWAP H` (R327). -/
def execSwap_H (s : State) : Result := shiftReg .swap .h s

/-- CB 35 `SWAP L` (R327). -/
def execSwap_L (s : State) : Result := shiftReg .swap .l s

/-- CB 36 `SWAP [HL]` (R328). -/
def execSwap_mHL (s : State) : Result := shiftHL .swap s

/-- CB 37 `SWAP A` (R327). -/
def execSwap_A (s : State) : Result := shiftReg .swap .a s

/-- CB 38 `SRL B` (R329). -/
def execSrl_B (s : State) : Result := shiftReg .srl .b s

/-- CB 39 `SRL C` (R329). -/
def execSrl_C (s : State) : Result := shiftReg .srl .c s

/-- CB 3A `SRL D` (R329). -/
def execSrl_D (s : State) : Result := shiftReg .srl .d s

/-- CB 3B `SRL E` (R329). -/
def execSrl_E (s : State) : Result := shiftReg .srl .e s

/-- CB 3C `SRL H` (R329). -/
def execSrl_H (s : State) : Result := shiftReg .srl .h s

/-- CB 3D `SRL L` (R329). -/
def execSrl_L (s : State) : Result := shiftReg .srl .l s

/-- CB 3E `SRL [HL]` (R330). -/
def execSrl_mHL (s : State) : Result := shiftHL .srl s

/-- CB 3F `SRL A` (R329). -/
def execSrl_A (s : State) : Result := shiftReg .srl .a s

/-- CB 40 `BIT 0,B` (R331). -/
def execBit_0_B (s : State) : Result := bitReg 0 .b s

/-- CB 41 `BIT 0,C` (R331). -/
def execBit_0_C (s : State) : Result := bitReg 0 .c s

/-- CB 42 `BIT 0,D` (R331). -/
def execBit_0_D (s : State) : Result := bitReg 0 .d s

/-- CB 43 `BIT 0,E` (R331). -/
def execBit_0_E (s : State) : Result := bitReg 0 .e s

/-- CB 44 `BIT 0,H` (R331). -/
def execBit_0_H (s : State) : Result := bitReg 0 .h s

/-- CB 45 `BIT 0,L` (R331). -/
def execBit_0_L (s : State) : Result := bitReg 0 .l s

/-- CB 46 `BIT 0,[HL]` (R332). -/
def execBit_0_mHL (s : State) : Result := bitHL 0 s

/-- CB 47 `BIT 0,A` (R331). -/
def execBit_0_A (s : State) : Result := bitReg 0 .a s

/-- CB 48 `BIT 1,B` (R331). -/
def execBit_1_B (s : State) : Result := bitReg 1 .b s

/-- CB 49 `BIT 1,C` (R331). -/
def execBit_1_C (s : State) : Result := bitReg 1 .c s

/-- CB 4A `BIT 1,D` (R331). -/
def execBit_1_D (s : State) : Result := bitReg 1 .d s

/-- CB 4B `BIT 1,E` (R331). -/
def execBit_1_E (s : State) : Result := bitReg 1 .e s

/-- CB 4C `BIT 1,H` (R331). -/
def execBit_1_H (s : State) : Result := bitReg 1 .h s

/-- CB 4D `BIT 1,L` (R331). -/
def execBit_1_L (s : State) : Result := bitReg 1 .l s

/-- CB 4E `BIT 1,[HL]` (R332). -/
def execBit_1_mHL (s : State) : Result := bitHL 1 s

/-- CB 4F `BIT 1,A` (R331). -/
def execBit_1_A (s : State) : Result := bitReg 1 .a s

/-- CB 50 `BIT 2,B` (R331). -/
def execBit_2_B (s : State) : Result := bitReg 2 .b s

/-- CB 51 `BIT 2,C` (R331). -/
def execBit_2_C (s : State) : Result := bitReg 2 .c s

/-- CB 52 `BIT 2,D` (R331). -/
def execBit_2_D (s : State) : Result := bitReg 2 .d s

/-- CB 53 `BIT 2,E` (R331). -/
def execBit_2_E (s : State) : Result := bitReg 2 .e s

/-- CB 54 `BIT 2,H` (R331). -/
def execBit_2_H (s : State) : Result := bitReg 2 .h s

/-- CB 55 `BIT 2,L` (R331). -/
def execBit_2_L (s : State) : Result := bitReg 2 .l s

/-- CB 56 `BIT 2,[HL]` (R332). -/
def execBit_2_mHL (s : State) : Result := bitHL 2 s

/-- CB 57 `BIT 2,A` (R331). -/
def execBit_2_A (s : State) : Result := bitReg 2 .a s

/-- CB 58 `BIT 3,B` (R331). -/
def execBit_3_B (s : State) : Result := bitReg 3 .b s

/-- CB 59 `BIT 3,C` (R331). -/
def execBit_3_C (s : State) : Result := bitReg 3 .c s

/-- CB 5A `BIT 3,D` (R331). -/
def execBit_3_D (s : State) : Result := bitReg 3 .d s

/-- CB 5B `BIT 3,E` (R331). -/
def execBit_3_E (s : State) : Result := bitReg 3 .e s

/-- CB 5C `BIT 3,H` (R331). -/
def execBit_3_H (s : State) : Result := bitReg 3 .h s

/-- CB 5D `BIT 3,L` (R331). -/
def execBit_3_L (s : State) : Result := bitReg 3 .l s

/-- CB 5E `BIT 3,[HL]` (R332). -/
def execBit_3_mHL (s : State) : Result := bitHL 3 s

/-- CB 5F `BIT 3,A` (R331). -/
def execBit_3_A (s : State) : Result := bitReg 3 .a s

/-- CB 60 `BIT 4,B` (R331). -/
def execBit_4_B (s : State) : Result := bitReg 4 .b s

/-- CB 61 `BIT 4,C` (R331). -/
def execBit_4_C (s : State) : Result := bitReg 4 .c s

/-- CB 62 `BIT 4,D` (R331). -/
def execBit_4_D (s : State) : Result := bitReg 4 .d s

/-- CB 63 `BIT 4,E` (R331). -/
def execBit_4_E (s : State) : Result := bitReg 4 .e s

/-- CB 64 `BIT 4,H` (R331). -/
def execBit_4_H (s : State) : Result := bitReg 4 .h s

/-- CB 65 `BIT 4,L` (R331). -/
def execBit_4_L (s : State) : Result := bitReg 4 .l s

/-- CB 66 `BIT 4,[HL]` (R332). -/
def execBit_4_mHL (s : State) : Result := bitHL 4 s

/-- CB 67 `BIT 4,A` (R331). -/
def execBit_4_A (s : State) : Result := bitReg 4 .a s

/-- CB 68 `BIT 5,B` (R331). -/
def execBit_5_B (s : State) : Result := bitReg 5 .b s

/-- CB 69 `BIT 5,C` (R331). -/
def execBit_5_C (s : State) : Result := bitReg 5 .c s

/-- CB 6A `BIT 5,D` (R331). -/
def execBit_5_D (s : State) : Result := bitReg 5 .d s

/-- CB 6B `BIT 5,E` (R331). -/
def execBit_5_E (s : State) : Result := bitReg 5 .e s

/-- CB 6C `BIT 5,H` (R331). -/
def execBit_5_H (s : State) : Result := bitReg 5 .h s

/-- CB 6D `BIT 5,L` (R331). -/
def execBit_5_L (s : State) : Result := bitReg 5 .l s

/-- CB 6E `BIT 5,[HL]` (R332). -/
def execBit_5_mHL (s : State) : Result := bitHL 5 s

/-- CB 6F `BIT 5,A` (R331). -/
def execBit_5_A (s : State) : Result := bitReg 5 .a s

/-- CB 70 `BIT 6,B` (R331). -/
def execBit_6_B (s : State) : Result := bitReg 6 .b s

/-- CB 71 `BIT 6,C` (R331). -/
def execBit_6_C (s : State) : Result := bitReg 6 .c s

/-- CB 72 `BIT 6,D` (R331). -/
def execBit_6_D (s : State) : Result := bitReg 6 .d s

/-- CB 73 `BIT 6,E` (R331). -/
def execBit_6_E (s : State) : Result := bitReg 6 .e s

/-- CB 74 `BIT 6,H` (R331). -/
def execBit_6_H (s : State) : Result := bitReg 6 .h s

/-- CB 75 `BIT 6,L` (R331). -/
def execBit_6_L (s : State) : Result := bitReg 6 .l s

/-- CB 76 `BIT 6,[HL]` (R332). -/
def execBit_6_mHL (s : State) : Result := bitHL 6 s

/-- CB 77 `BIT 6,A` (R331). -/
def execBit_6_A (s : State) : Result := bitReg 6 .a s

/-- CB 78 `BIT 7,B` (R331). -/
def execBit_7_B (s : State) : Result := bitReg 7 .b s

/-- CB 79 `BIT 7,C` (R331). -/
def execBit_7_C (s : State) : Result := bitReg 7 .c s

/-- CB 7A `BIT 7,D` (R331). -/
def execBit_7_D (s : State) : Result := bitReg 7 .d s

/-- CB 7B `BIT 7,E` (R331). -/
def execBit_7_E (s : State) : Result := bitReg 7 .e s

/-- CB 7C `BIT 7,H` (R331). -/
def execBit_7_H (s : State) : Result := bitReg 7 .h s

/-- CB 7D `BIT 7,L` (R331). -/
def execBit_7_L (s : State) : Result := bitReg 7 .l s

/-- CB 7E `BIT 7,[HL]` (R332). -/
def execBit_7_mHL (s : State) : Result := bitHL 7 s

/-- CB 7F `BIT 7,A` (R331). -/
def execBit_7_A (s : State) : Result := bitReg 7 .a s

/-- CB 80 `RES 0,B` (R333). -/
def execRes_0_B (s : State) : Result := resReg 0 .b s

/-- CB 81 `RES 0,C` (R333). -/
def execRes_0_C (s : State) : Result := resReg 0 .c s

/-- CB 82 `RES 0,D` (R333). -/
def execRes_0_D (s : State) : Result := resReg 0 .d s

/-- CB 83 `RES 0,E` (R333). -/
def execRes_0_E (s : State) : Result := resReg 0 .e s

/-- CB 84 `RES 0,H` (R333). -/
def execRes_0_H (s : State) : Result := resReg 0 .h s

/-- CB 85 `RES 0,L` (R333). -/
def execRes_0_L (s : State) : Result := resReg 0 .l s

/-- CB 86 `RES 0,[HL]` (R334). -/
def execRes_0_mHL (s : State) : Result := resHL 0 s

/-- CB 87 `RES 0,A` (R333). -/
def execRes_0_A (s : State) : Result := resReg 0 .a s

/-- CB 88 `RES 1,B` (R333). -/
def execRes_1_B (s : State) : Result := resReg 1 .b s

/-- CB 89 `RES 1,C` (R333). -/
def execRes_1_C (s : State) : Result := resReg 1 .c s

/-- CB 8A `RES 1,D` (R333). -/
def execRes_1_D (s : State) : Result := resReg 1 .d s

/-- CB 8B `RES 1,E` (R333). -/
def execRes_1_E (s : State) : Result := resReg 1 .e s

/-- CB 8C `RES 1,H` (R333). -/
def execRes_1_H (s : State) : Result := resReg 1 .h s

/-- CB 8D `RES 1,L` (R333). -/
def execRes_1_L (s : State) : Result := resReg 1 .l s

/-- CB 8E `RES 1,[HL]` (R334). -/
def execRes_1_mHL (s : State) : Result := resHL 1 s

/-- CB 8F `RES 1,A` (R333). -/
def execRes_1_A (s : State) : Result := resReg 1 .a s

/-- CB 90 `RES 2,B` (R333). -/
def execRes_2_B (s : State) : Result := resReg 2 .b s

/-- CB 91 `RES 2,C` (R333). -/
def execRes_2_C (s : State) : Result := resReg 2 .c s

/-- CB 92 `RES 2,D` (R333). -/
def execRes_2_D (s : State) : Result := resReg 2 .d s

/-- CB 93 `RES 2,E` (R333). -/
def execRes_2_E (s : State) : Result := resReg 2 .e s

/-- CB 94 `RES 2,H` (R333). -/
def execRes_2_H (s : State) : Result := resReg 2 .h s

/-- CB 95 `RES 2,L` (R333). -/
def execRes_2_L (s : State) : Result := resReg 2 .l s

/-- CB 96 `RES 2,[HL]` (R334). -/
def execRes_2_mHL (s : State) : Result := resHL 2 s

/-- CB 97 `RES 2,A` (R333). -/
def execRes_2_A (s : State) : Result := resReg 2 .a s

/-- CB 98 `RES 3,B` (R333). -/
def execRes_3_B (s : State) : Result := resReg 3 .b s

/-- CB 99 `RES 3,C` (R333). -/
def execRes_3_C (s : State) : Result := resReg 3 .c s

/-- CB 9A `RES 3,D` (R333). -/
def execRes_3_D (s : State) : Result := resReg 3 .d s

/-- CB 9B `RES 3,E` (R333). -/
def execRes_3_E (s : State) : Result := resReg 3 .e s

/-- CB 9C `RES 3,H` (R333). -/
def execRes_3_H (s : State) : Result := resReg 3 .h s

/-- CB 9D `RES 3,L` (R333). -/
def execRes_3_L (s : State) : Result := resReg 3 .l s

/-- CB 9E `RES 3,[HL]` (R334). -/
def execRes_3_mHL (s : State) : Result := resHL 3 s

/-- CB 9F `RES 3,A` (R333). -/
def execRes_3_A (s : State) : Result := resReg 3 .a s

/-- CB A0 `RES 4,B` (R333). -/
def execRes_4_B (s : State) : Result := resReg 4 .b s

/-- CB A1 `RES 4,C` (R333). -/
def execRes_4_C (s : State) : Result := resReg 4 .c s

/-- CB A2 `RES 4,D` (R333). -/
def execRes_4_D (s : State) : Result := resReg 4 .d s

/-- CB A3 `RES 4,E` (R333). -/
def execRes_4_E (s : State) : Result := resReg 4 .e s

/-- CB A4 `RES 4,H` (R333). -/
def execRes_4_H (s : State) : Result := resReg 4 .h s

/-- CB A5 `RES 4,L` (R333). -/
def execRes_4_L (s : State) : Result := resReg 4 .l s

/-- CB A6 `RES 4,[HL]` (R334). -/
def execRes_4_mHL (s : State) : Result := resHL 4 s

/-- CB A7 `RES 4,A` (R333). -/
def execRes_4_A (s : State) : Result := resReg 4 .a s

/-- CB A8 `RES 5,B` (R333). -/
def execRes_5_B (s : State) : Result := resReg 5 .b s

/-- CB A9 `RES 5,C` (R333). -/
def execRes_5_C (s : State) : Result := resReg 5 .c s

/-- CB AA `RES 5,D` (R333). -/
def execRes_5_D (s : State) : Result := resReg 5 .d s

/-- CB AB `RES 5,E` (R333). -/
def execRes_5_E (s : State) : Result := resReg 5 .e s

/-- CB AC `RES 5,H` (R333). -/
def execRes_5_H (s : State) : Result := resReg 5 .h s

/-- CB AD `RES 5,L` (R333). -/
def execRes_5_L (s : State) : Result := resReg 5 .l s

/-- CB AE `RES 5,[HL]` (R334). -/
def execRes_5_mHL (s : State) : Result := resHL 5 s

/-- CB AF `RES 5,A` (R333). -/
def execRes_5_A (s : State) : Result := resReg 5 .a s

/-- CB B0 `RES 6,B` (R333). -/
def execRes_6_B (s : State) : Result := resReg 6 .b s

/-- CB B1 `RES 6,C` (R333). -/
def execRes_6_C (s : State) : Result := resReg 6 .c s

/-- CB B2 `RES 6,D` (R333). -/
def execRes_6_D (s : State) : Result := resReg 6 .d s

/-- CB B3 `RES 6,E` (R333). -/
def execRes_6_E (s : State) : Result := resReg 6 .e s

/-- CB B4 `RES 6,H` (R333). -/
def execRes_6_H (s : State) : Result := resReg 6 .h s

/-- CB B5 `RES 6,L` (R333). -/
def execRes_6_L (s : State) : Result := resReg 6 .l s

/-- CB B6 `RES 6,[HL]` (R334). -/
def execRes_6_mHL (s : State) : Result := resHL 6 s

/-- CB B7 `RES 6,A` (R333). -/
def execRes_6_A (s : State) : Result := resReg 6 .a s

/-- CB B8 `RES 7,B` (R333). -/
def execRes_7_B (s : State) : Result := resReg 7 .b s

/-- CB B9 `RES 7,C` (R333). -/
def execRes_7_C (s : State) : Result := resReg 7 .c s

/-- CB BA `RES 7,D` (R333). -/
def execRes_7_D (s : State) : Result := resReg 7 .d s

/-- CB BB `RES 7,E` (R333). -/
def execRes_7_E (s : State) : Result := resReg 7 .e s

/-- CB BC `RES 7,H` (R333). -/
def execRes_7_H (s : State) : Result := resReg 7 .h s

/-- CB BD `RES 7,L` (R333). -/
def execRes_7_L (s : State) : Result := resReg 7 .l s

/-- CB BE `RES 7,[HL]` (R334). -/
def execRes_7_mHL (s : State) : Result := resHL 7 s

/-- CB BF `RES 7,A` (R333). -/
def execRes_7_A (s : State) : Result := resReg 7 .a s

/-- CB C0 `SET 0,B` (R335). -/
def execSet_0_B (s : State) : Result := setReg 0 .b s

/-- CB C1 `SET 0,C` (R335). -/
def execSet_0_C (s : State) : Result := setReg 0 .c s

/-- CB C2 `SET 0,D` (R335). -/
def execSet_0_D (s : State) : Result := setReg 0 .d s

/-- CB C3 `SET 0,E` (R335). -/
def execSet_0_E (s : State) : Result := setReg 0 .e s

/-- CB C4 `SET 0,H` (R335). -/
def execSet_0_H (s : State) : Result := setReg 0 .h s

/-- CB C5 `SET 0,L` (R335). -/
def execSet_0_L (s : State) : Result := setReg 0 .l s

/-- CB C6 `SET 0,[HL]` (R336). -/
def execSet_0_mHL (s : State) : Result := setHL 0 s

/-- CB C7 `SET 0,A` (R335). -/
def execSet_0_A (s : State) : Result := setReg 0 .a s

/-- CB C8 `SET 1,B` (R335). -/
def execSet_1_B (s : State) : Result := setReg 1 .b s

/-- CB C9 `SET 1,C` (R335). -/
def execSet_1_C (s : State) : Result := setReg 1 .c s

/-- CB CA `SET 1,D` (R335). -/
def execSet_1_D (s : State) : Result := setReg 1 .d s

/-- CB CB `SET 1,E` (R335). -/
def execSet_1_E (s : State) : Result := setReg 1 .e s

/-- CB CC `SET 1,H` (R335). -/
def execSet_1_H (s : State) : Result := setReg 1 .h s

/-- CB CD `SET 1,L` (R335). -/
def execSet_1_L (s : State) : Result := setReg 1 .l s

/-- CB CE `SET 1,[HL]` (R336). -/
def execSet_1_mHL (s : State) : Result := setHL 1 s

/-- CB CF `SET 1,A` (R335). -/
def execSet_1_A (s : State) : Result := setReg 1 .a s

/-- CB D0 `SET 2,B` (R335). -/
def execSet_2_B (s : State) : Result := setReg 2 .b s

/-- CB D1 `SET 2,C` (R335). -/
def execSet_2_C (s : State) : Result := setReg 2 .c s

/-- CB D2 `SET 2,D` (R335). -/
def execSet_2_D (s : State) : Result := setReg 2 .d s

/-- CB D3 `SET 2,E` (R335). -/
def execSet_2_E (s : State) : Result := setReg 2 .e s

/-- CB D4 `SET 2,H` (R335). -/
def execSet_2_H (s : State) : Result := setReg 2 .h s

/-- CB D5 `SET 2,L` (R335). -/
def execSet_2_L (s : State) : Result := setReg 2 .l s

/-- CB D6 `SET 2,[HL]` (R336). -/
def execSet_2_mHL (s : State) : Result := setHL 2 s

/-- CB D7 `SET 2,A` (R335). -/
def execSet_2_A (s : State) : Result := setReg 2 .a s

/-- CB D8 `SET 3,B` (R335). -/
def execSet_3_B (s : State) : Result := setReg 3 .b s

/-- CB D9 `SET 3,C` (R335). -/
def execSet_3_C (s : State) : Result := setReg 3 .c s

/-- CB DA `SET 3,D` (R335). -/
def execSet_3_D (s : State) : Result := setReg 3 .d s

/-- CB DB `SET 3,E` (R335). -/
def execSet_3_E (s : State) : Result := setReg 3 .e s

/-- CB DC `SET 3,H` (R335). -/
def execSet_3_H (s : State) : Result := setReg 3 .h s

/-- CB DD `SET 3,L` (R335). -/
def execSet_3_L (s : State) : Result := setReg 3 .l s

/-- CB DE `SET 3,[HL]` (R336). -/
def execSet_3_mHL (s : State) : Result := setHL 3 s

/-- CB DF `SET 3,A` (R335). -/
def execSet_3_A (s : State) : Result := setReg 3 .a s

/-- CB E0 `SET 4,B` (R335). -/
def execSet_4_B (s : State) : Result := setReg 4 .b s

/-- CB E1 `SET 4,C` (R335). -/
def execSet_4_C (s : State) : Result := setReg 4 .c s

/-- CB E2 `SET 4,D` (R335). -/
def execSet_4_D (s : State) : Result := setReg 4 .d s

/-- CB E3 `SET 4,E` (R335). -/
def execSet_4_E (s : State) : Result := setReg 4 .e s

/-- CB E4 `SET 4,H` (R335). -/
def execSet_4_H (s : State) : Result := setReg 4 .h s

/-- CB E5 `SET 4,L` (R335). -/
def execSet_4_L (s : State) : Result := setReg 4 .l s

/-- CB E6 `SET 4,[HL]` (R336). -/
def execSet_4_mHL (s : State) : Result := setHL 4 s

/-- CB E7 `SET 4,A` (R335). -/
def execSet_4_A (s : State) : Result := setReg 4 .a s

/-- CB E8 `SET 5,B` (R335). -/
def execSet_5_B (s : State) : Result := setReg 5 .b s

/-- CB E9 `SET 5,C` (R335). -/
def execSet_5_C (s : State) : Result := setReg 5 .c s

/-- CB EA `SET 5,D` (R335). -/
def execSet_5_D (s : State) : Result := setReg 5 .d s

/-- CB EB `SET 5,E` (R335). -/
def execSet_5_E (s : State) : Result := setReg 5 .e s

/-- CB EC `SET 5,H` (R335). -/
def execSet_5_H (s : State) : Result := setReg 5 .h s

/-- CB ED `SET 5,L` (R335). -/
def execSet_5_L (s : State) : Result := setReg 5 .l s

/-- CB EE `SET 5,[HL]` (R336). -/
def execSet_5_mHL (s : State) : Result := setHL 5 s

/-- CB EF `SET 5,A` (R335). -/
def execSet_5_A (s : State) : Result := setReg 5 .a s

/-- CB F0 `SET 6,B` (R335). -/
def execSet_6_B (s : State) : Result := setReg 6 .b s

/-- CB F1 `SET 6,C` (R335). -/
def execSet_6_C (s : State) : Result := setReg 6 .c s

/-- CB F2 `SET 6,D` (R335). -/
def execSet_6_D (s : State) : Result := setReg 6 .d s

/-- CB F3 `SET 6,E` (R335). -/
def execSet_6_E (s : State) : Result := setReg 6 .e s

/-- CB F4 `SET 6,H` (R335). -/
def execSet_6_H (s : State) : Result := setReg 6 .h s

/-- CB F5 `SET 6,L` (R335). -/
def execSet_6_L (s : State) : Result := setReg 6 .l s

/-- CB F6 `SET 6,[HL]` (R336). -/
def execSet_6_mHL (s : State) : Result := setHL 6 s

/-- CB F7 `SET 6,A` (R335). -/
def execSet_6_A (s : State) : Result := setReg 6 .a s

/-- CB F8 `SET 7,B` (R335). -/
def execSet_7_B (s : State) : Result := setReg 7 .b s

/-- CB F9 `SET 7,C` (R335). -/
def execSet_7_C (s : State) : Result := setReg 7 .c s

/-- CB FA `SET 7,D` (R335). -/
def execSet_7_D (s : State) : Result := setReg 7 .d s

/-- CB FB `SET 7,E` (R335). -/
def execSet_7_E (s : State) : Result := setReg 7 .e s

/-- CB FC `SET 7,H` (R335). -/
def execSet_7_H (s : State) : Result := setReg 7 .h s

/-- CB FD `SET 7,L` (R335). -/
def execSet_7_L (s : State) : Result := setReg 7 .l s

/-- CB FE `SET 7,[HL]` (R336). -/
def execSet_7_mHL (s : State) : Result := setHL 7 s

/-- CB FF `SET 7,A` (R335). -/
def execSet_7_A (s : State) : Result := setReg 7 .a s

end Sys2Proof.Machine
end

