-- ==== Sys2Proof/Machine/Control.lean ====
section
/-! DEFINITION. Control-flow instructions (43_control.md R351 to R366). A meaning starts with PC at the next instruction
(R140), so PC is the link value (R360) and the base of a relative jump (R364). None writes a flag. A conditional form
whose condition fails changes nothing but PC and costs its not-taken count (R350). -/

namespace Sys2Proof.Machine

/-! ## The shared forms -/

/-- `JP a16`, `JP HL` (R351, R353). -/
def jump (target : Word) (cycles : Nat) (s : State) : Result := { s with pc := target }.retire cycles

/-- `JP cc,a16` (R352). -/
def jumpIf (cc : Cond) (target : Word) (s : State) : Result := if s.cond cc then jump target 16 s else s.retire 12

/-- `JR s8` (R354). -/
def jumpRel (e : Byte) (s : State) : Result := jump (s.pc + sext16 e) 12 s

/-- `JR cc,s8` (R355). -/
def jumpRelIf (cc : Cond) (e : Byte) (s : State) : Result := if s.cond cc then jumpRel e s else s.retire 8

/-- `CALL a16` (R356) and the taken `CALL cc,a16` and `RST t`: PC is pushed, then PC becomes the target. -/
def call (target : Word) (cycles : Nat) (s : State) : Result := { s.push16 s.pc with pc := target }.retire cycles

/-- `CALL cc,a16` (R357). -/
def callIf (cc : Cond) (target : Word) (s : State) : Result := if s.cond cc then call target 24 s else s.retire 12

/-- `RET` (R358) and the taken `RET cc`. -/
def ret (cycles : Nat) (s : State) : Result := { s.popSp with pc := s.popValue }.retire cycles

/-- `RET cc` (R359). -/
def retIf (cc : Cond) (s : State) : Result := if s.cond cc then ret 20 s else s.retire 8

/-- `RETI` (R362). -/
def reti (s : State) : Result := s.returnFromInterrupt.retire 16

/-- `RST t` (R366): the vector is 8 times the field. -/
def restart (t : Fin 8) (s : State) : Result := call (BitVec.ofNat 16 (8 * t.val)) 16 s

/-! ## The instructions -/

/-- 18 `JR s8` (R354). -/
def execJr_s8 (s8 : Byte) (s : State) : Result := jumpRel s8 s

/-- 20 `JR NZ,s8` (R355). -/
def execJr_NZ_s8 (s8 : Byte) (s : State) : Result := jumpRelIf .nz s8 s

/-- 28 `JR Z,s8` (R355). -/
def execJr_Z_s8 (s8 : Byte) (s : State) : Result := jumpRelIf .z s8 s

/-- 30 `JR NC,s8` (R355). -/
def execJr_NC_s8 (s8 : Byte) (s : State) : Result := jumpRelIf .nc s8 s

/-- 38 `JR C,s8` (R355). -/
def execJr_C_s8 (s8 : Byte) (s : State) : Result := jumpRelIf .c s8 s

/-- C0 `RET NZ` (R359). -/
def execRet_NZ (s : State) : Result := retIf .nz s

/-- C2 `JP NZ,a16` (R352). -/
def execJp_NZ_a16 (a16 : Word) (s : State) : Result := jumpIf .nz a16 s

/-- C3 `JP a16` (R351). -/
def execJp_a16 (a16 : Word) (s : State) : Result := jump a16 16 s

/-- C4 `CALL NZ,a16` (R357). -/
def execCall_NZ_a16 (a16 : Word) (s : State) : Result := callIf .nz a16 s

/-- C7 `RST 0x00` (R366). -/
def execRst_00 (s : State) : Result := restart 0 s

/-- C8 `RET Z` (R359). -/
def execRet_Z (s : State) : Result := retIf .z s

/-- C9 `RET` (R358). -/
def execRet (s : State) : Result := ret 16 s

/-- CA `JP Z,a16` (R352). -/
def execJp_Z_a16 (a16 : Word) (s : State) : Result := jumpIf .z a16 s

/-- CC `CALL Z,a16` (R357). -/
def execCall_Z_a16 (a16 : Word) (s : State) : Result := callIf .z a16 s

/-- CD `CALL a16` (R356). -/
def execCall_a16 (a16 : Word) (s : State) : Result := call a16 24 s

/-- CF `RST 0x08` (R366). -/
def execRst_08 (s : State) : Result := restart 1 s

/-- D0 `RET NC` (R359). -/
def execRet_NC (s : State) : Result := retIf .nc s

/-- D2 `JP NC,a16` (R352). -/
def execJp_NC_a16 (a16 : Word) (s : State) : Result := jumpIf .nc a16 s

/-- D4 `CALL NC,a16` (R357). -/
def execCall_NC_a16 (a16 : Word) (s : State) : Result := callIf .nc a16 s

/-- D7 `RST 0x10` (R366). -/
def execRst_10 (s : State) : Result := restart 2 s

/-- D8 `RET C` (R359). -/
def execRet_C (s : State) : Result := retIf .c s

/-- D9 `RETI` (R362). -/
def execReti (s : State) : Result := reti s

/-- DA `JP C,a16` (R352). -/
def execJp_C_a16 (a16 : Word) (s : State) : Result := jumpIf .c a16 s

/-- DC `CALL C,a16` (R357). -/
def execCall_C_a16 (a16 : Word) (s : State) : Result := callIf .c a16 s

/-- DF `RST 0x18` (R366). -/
def execRst_18 (s : State) : Result := restart 3 s

/-- E7 `RST 0x20` (R366). -/
def execRst_20 (s : State) : Result := restart 4 s

/-- E9 `JP HL` (R353). -/
def execJp_HL (s : State) : Result := jump s.hl 4 s

/-- EF `RST 0x28` (R366). -/
def execRst_28 (s : State) : Result := restart 5 s

/-- F7 `RST 0x30` (R366). -/
def execRst_30 (s : State) : Result := restart 6 s

/-- FF `RST 0x38` (R366). -/
def execRst_38 (s : State) : Result := restart 7 s

end Sys2Proof.Machine
end

