-- ==== Sys2Proof/Machine/Load.lean ====
section
/-! DEFINITION. Load, store and stack instructions (40_load.md R201 to R226). A meaning starts with PC past the
instruction's bytes (R140). No load or store writes a flag, but for POP AF and `LD HL,SP+s8` (R48). -/

namespace Sys2Proof.Machine

/-! ## The shared forms -/

/-- `LD r,r'` (R201). -/
def ldReg (dst src : Reg8) (s : State) : Result := (s.setReg dst (s.reg src)).retire 4

/-- `LD r,d8` (R202). -/
def ldImm (dst : Reg8) (n : Byte) (s : State) : Result := (s.setReg dst n).retire 8

/-- `LD r,[HL]` (R203): the read is at the old HL. -/
def ldFromHL (dst : Reg8) (s : State) : Result := (s.setReg dst (s.readByte s.hl)).retire 8

/-- `LD [HL],r` (R204). -/
def ldToHL (src : Reg8) (s : State) : Result := (s.writeByte s.hl (s.reg src)).retire 8

/-- `LD [HL],d8` (R205). -/
def ldImmToHL (n : Byte) (s : State) : Result := (s.writeByte s.hl n).retire 12

/-- Loading A from an address (R206, R207, R210, R212, R214). -/
def ldAFrom (addr : Word) (cycles : Nat) (s : State) : Result := { s with a := s.readByte addr }.retire cycles

/-- Storing A at an address (R208, R209, R211, R213, R215). -/
def ldATo (addr : Word) (cycles : Nat) (s : State) : Result := (s.writeByte addr s.a).retire cycles

/-- `LD A,[HL+]` and `LD A,[HL-]` (R216, R217): the read is at the old HL, then HL becomes `hl`. -/
def ldAFromHLThen (hl : Word) (s : State) : Result := ({ s with a := s.readByte s.hl }.setHL hl).retire 8

/-- `LD [HL+],A` and `LD [HL-],A` (R218, R219): the write is at the old HL, then HL becomes `hl`. -/
def ldAToHLThen (hl : Word) (s : State) : Result := ((s.writeByte s.hl s.a).setHL hl).retire 8

/-- `LD rr,d16` (R220). -/
def ldPair (dst : Pair) (v : Word) (s : State) : Result := (s.setPair dst v).retire 12

/-- `LD [a16],SP` (R221): the low byte at the address, the high byte at the next. -/
def ldSpTo (addr : Word) (s : State) : Result := (s.writeWord addr s.sp).retire 20

/-- `LD SP,HL` (R222). -/
def ldSpHL (s : State) : Result := { s with sp := s.hl }.retire 8

/-- `LD HL,SP+s8` (R223). -/
def ldHLSp (e : Byte) (s : State) : Result :=
  let r := addSPe s.sp e
  ((s.setHL r.value).setFlags false false r.h r.c).retire 12

/-- `PUSH qq` (R224). -/
def push (q : StackPair) (s : State) : Result := (s.push16 (s.stackPair q)).retire 16

/-- `POP qq` (R225, R226). -/
def pop (q : StackPair) (s : State) : Result := (s.popSp.setStackPair q s.popValue).retire 12

/-! ## The instructions -/

/-- 01 `LD BC,d16` (R220). -/
def execLd_BC_d16 (d16 : Word) (s : State) : Result := ldPair .bc d16 s

/-- 02 `LD [BC],A` (R208). -/
def execLd_mBC_A (s : State) : Result := ldATo s.bc 8 s

/-- 06 `LD B,d8` (R202). -/
def execLd_B_d8 (d8 : Byte) (s : State) : Result := ldImm .b d8 s

/-- 08 `LD [a16],SP` (R221). -/
def execLd_mA16_SP (a16 : Word) (s : State) : Result := ldSpTo a16 s

/-- 0A `LD A,[BC]` (R206). -/
def execLd_A_mBC (s : State) : Result := ldAFrom s.bc 8 s

/-- 0E `LD C,d8` (R202). -/
def execLd_C_d8 (d8 : Byte) (s : State) : Result := ldImm .c d8 s

/-- 11 `LD DE,d16` (R220). -/
def execLd_DE_d16 (d16 : Word) (s : State) : Result := ldPair .de d16 s

/-- 12 `LD [DE],A` (R209). -/
def execLd_mDE_A (s : State) : Result := ldATo s.de 8 s

/-- 16 `LD D,d8` (R202). -/
def execLd_D_d8 (d8 : Byte) (s : State) : Result := ldImm .d d8 s

/-- 1A `LD A,[DE]` (R207). -/
def execLd_A_mDE (s : State) : Result := ldAFrom s.de 8 s

/-- 1E `LD E,d8` (R202). -/
def execLd_E_d8 (d8 : Byte) (s : State) : Result := ldImm .e d8 s

/-- 21 `LD HL,d16` (R220). -/
def execLd_HL_d16 (d16 : Word) (s : State) : Result := ldPair .hl d16 s

/-- 22 `LD [HL+],A` (R218). -/
def execLd_mHLinc_A (s : State) : Result := ldAToHLThen (s.hl + 1) s

/-- 26 `LD H,d8` (R202). -/
def execLd_H_d8 (d8 : Byte) (s : State) : Result := ldImm .h d8 s

/-- 2A `LD A,[HL+]` (R216). -/
def execLd_A_mHLinc (s : State) : Result := ldAFromHLThen (s.hl + 1) s

/-- 2E `LD L,d8` (R202). -/
def execLd_L_d8 (d8 : Byte) (s : State) : Result := ldImm .l d8 s

/-- 31 `LD SP,d16` (R220). -/
def execLd_SP_d16 (d16 : Word) (s : State) : Result := ldPair .sp d16 s

/-- 32 `LD [HL-],A` (R219). -/
def execLd_mHLdec_A (s : State) : Result := ldAToHLThen (s.hl - 1) s

/-- 36 `LD [HL],d8` (R205). -/
def execLd_mHL_d8 (d8 : Byte) (s : State) : Result := ldImmToHL d8 s

/-- 3A `LD A,[HL-]` (R217). -/
def execLd_A_mHLdec (s : State) : Result := ldAFromHLThen (s.hl - 1) s

/-- 3E `LD A,d8` (R202). -/
def execLd_A_d8 (d8 : Byte) (s : State) : Result := ldImm .a d8 s

/-- 40 `LD B,B` (R201). -/
def execLd_B_B (s : State) : Result := ldReg .b .b s

/-- 41 `LD B,C` (R201). -/
def execLd_B_C (s : State) : Result := ldReg .b .c s

/-- 42 `LD B,D` (R201). -/
def execLd_B_D (s : State) : Result := ldReg .b .d s

/-- 43 `LD B,E` (R201). -/
def execLd_B_E (s : State) : Result := ldReg .b .e s

/-- 44 `LD B,H` (R201). -/
def execLd_B_H (s : State) : Result := ldReg .b .h s

/-- 45 `LD B,L` (R201). -/
def execLd_B_L (s : State) : Result := ldReg .b .l s

/-- 46 `LD B,[HL]` (R203). -/
def execLd_B_mHL (s : State) : Result := ldFromHL .b s

/-- 47 `LD B,A` (R201). -/
def execLd_B_A (s : State) : Result := ldReg .b .a s

/-- 48 `LD C,B` (R201). -/
def execLd_C_B (s : State) : Result := ldReg .c .b s

/-- 49 `LD C,C` (R201). -/
def execLd_C_C (s : State) : Result := ldReg .c .c s

/-- 4A `LD C,D` (R201). -/
def execLd_C_D (s : State) : Result := ldReg .c .d s

/-- 4B `LD C,E` (R201). -/
def execLd_C_E (s : State) : Result := ldReg .c .e s

/-- 4C `LD C,H` (R201). -/
def execLd_C_H (s : State) : Result := ldReg .c .h s

/-- 4D `LD C,L` (R201). -/
def execLd_C_L (s : State) : Result := ldReg .c .l s

/-- 4E `LD C,[HL]` (R203). -/
def execLd_C_mHL (s : State) : Result := ldFromHL .c s

/-- 4F `LD C,A` (R201). -/
def execLd_C_A (s : State) : Result := ldReg .c .a s

/-- 50 `LD D,B` (R201). -/
def execLd_D_B (s : State) : Result := ldReg .d .b s

/-- 51 `LD D,C` (R201). -/
def execLd_D_C (s : State) : Result := ldReg .d .c s

/-- 52 `LD D,D` (R201). -/
def execLd_D_D (s : State) : Result := ldReg .d .d s

/-- 53 `LD D,E` (R201). -/
def execLd_D_E (s : State) : Result := ldReg .d .e s

/-- 54 `LD D,H` (R201). -/
def execLd_D_H (s : State) : Result := ldReg .d .h s

/-- 55 `LD D,L` (R201). -/
def execLd_D_L (s : State) : Result := ldReg .d .l s

/-- 56 `LD D,[HL]` (R203). -/
def execLd_D_mHL (s : State) : Result := ldFromHL .d s

/-- 57 `LD D,A` (R201). -/
def execLd_D_A (s : State) : Result := ldReg .d .a s

/-- 58 `LD E,B` (R201). -/
def execLd_E_B (s : State) : Result := ldReg .e .b s

/-- 59 `LD E,C` (R201). -/
def execLd_E_C (s : State) : Result := ldReg .e .c s

/-- 5A `LD E,D` (R201). -/
def execLd_E_D (s : State) : Result := ldReg .e .d s

/-- 5B `LD E,E` (R201). -/
def execLd_E_E (s : State) : Result := ldReg .e .e s

/-- 5C `LD E,H` (R201). -/
def execLd_E_H (s : State) : Result := ldReg .e .h s

/-- 5D `LD E,L` (R201). -/
def execLd_E_L (s : State) : Result := ldReg .e .l s

/-- 5E `LD E,[HL]` (R203). -/
def execLd_E_mHL (s : State) : Result := ldFromHL .e s

/-- 5F `LD E,A` (R201). -/
def execLd_E_A (s : State) : Result := ldReg .e .a s

/-- 60 `LD H,B` (R201). -/
def execLd_H_B (s : State) : Result := ldReg .h .b s

/-- 61 `LD H,C` (R201). -/
def execLd_H_C (s : State) : Result := ldReg .h .c s

/-- 62 `LD H,D` (R201). -/
def execLd_H_D (s : State) : Result := ldReg .h .d s

/-- 63 `LD H,E` (R201). -/
def execLd_H_E (s : State) : Result := ldReg .h .e s

/-- 64 `LD H,H` (R201). -/
def execLd_H_H (s : State) : Result := ldReg .h .h s

/-- 65 `LD H,L` (R201). -/
def execLd_H_L (s : State) : Result := ldReg .h .l s

/-- 66 `LD H,[HL]` (R203). -/
def execLd_H_mHL (s : State) : Result := ldFromHL .h s

/-- 67 `LD H,A` (R201). -/
def execLd_H_A (s : State) : Result := ldReg .h .a s

/-- 68 `LD L,B` (R201). -/
def execLd_L_B (s : State) : Result := ldReg .l .b s

/-- 69 `LD L,C` (R201). -/
def execLd_L_C (s : State) : Result := ldReg .l .c s

/-- 6A `LD L,D` (R201). -/
def execLd_L_D (s : State) : Result := ldReg .l .d s

/-- 6B `LD L,E` (R201). -/
def execLd_L_E (s : State) : Result := ldReg .l .e s

/-- 6C `LD L,H` (R201). -/
def execLd_L_H (s : State) : Result := ldReg .l .h s

/-- 6D `LD L,L` (R201). -/
def execLd_L_L (s : State) : Result := ldReg .l .l s

/-- 6E `LD L,[HL]` (R203). -/
def execLd_L_mHL (s : State) : Result := ldFromHL .l s

/-- 6F `LD L,A` (R201). -/
def execLd_L_A (s : State) : Result := ldReg .l .a s

/-- 70 `LD [HL],B` (R204). -/
def execLd_mHL_B (s : State) : Result := ldToHL .b s

/-- 71 `LD [HL],C` (R204). -/
def execLd_mHL_C (s : State) : Result := ldToHL .c s

/-- 72 `LD [HL],D` (R204). -/
def execLd_mHL_D (s : State) : Result := ldToHL .d s

/-- 73 `LD [HL],E` (R204). -/
def execLd_mHL_E (s : State) : Result := ldToHL .e s

/-- 74 `LD [HL],H` (R204). -/
def execLd_mHL_H (s : State) : Result := ldToHL .h s

/-- 75 `LD [HL],L` (R204). -/
def execLd_mHL_L (s : State) : Result := ldToHL .l s

/-- 77 `LD [HL],A` (R204). -/
def execLd_mHL_A (s : State) : Result := ldToHL .a s

/-- 78 `LD A,B` (R201). -/
def execLd_A_B (s : State) : Result := ldReg .a .b s

/-- 79 `LD A,C` (R201). -/
def execLd_A_C (s : State) : Result := ldReg .a .c s

/-- 7A `LD A,D` (R201). -/
def execLd_A_D (s : State) : Result := ldReg .a .d s

/-- 7B `LD A,E` (R201). -/
def execLd_A_E (s : State) : Result := ldReg .a .e s

/-- 7C `LD A,H` (R201). -/
def execLd_A_H (s : State) : Result := ldReg .a .h s

/-- 7D `LD A,L` (R201). -/
def execLd_A_L (s : State) : Result := ldReg .a .l s

/-- 7E `LD A,[HL]` (R203). -/
def execLd_A_mHL (s : State) : Result := ldFromHL .a s

/-- 7F `LD A,A` (R201). -/
def execLd_A_A (s : State) : Result := ldReg .a .a s

/-- C1 `POP BC` (R225). -/
def execPop_BC (s : State) : Result := pop .bc s

/-- C5 `PUSH BC` (R224). -/
def execPush_BC (s : State) : Result := push .bc s

/-- D1 `POP DE` (R225). -/
def execPop_DE (s : State) : Result := pop .de s

/-- D5 `PUSH DE` (R224). -/
def execPush_DE (s : State) : Result := push .de s

/-- E0 `LDH [a8],A` (R215). -/
def execLdh_mA8_A (a8 : Byte) (s : State) : Result := ldATo (highPage a8) 12 s

/-- E1 `POP HL` (R225). -/
def execPop_HL (s : State) : Result := pop .hl s

/-- E2 `LDH [C],A` (R213). -/
def execLdh_mC_A (s : State) : Result := ldATo (highPage s.c) 8 s

/-- E5 `PUSH HL` (R224). -/
def execPush_HL (s : State) : Result := push .hl s

/-- EA `LD [a16],A` (R211). -/
def execLd_mA16_A (a16 : Word) (s : State) : Result := ldATo a16 16 s

/-- F0 `LDH A,[a8]` (R214). -/
def execLdh_A_mA8 (a8 : Byte) (s : State) : Result := ldAFrom (highPage a8) 12 s

/-- F1 `POP AF` (R226). -/
def execPop_AF (s : State) : Result := pop .af s

/-- F2 `LDH A,[C]` (R212). -/
def execLdh_A_mC (s : State) : Result := ldAFrom (highPage s.c) 8 s

/-- F5 `PUSH AF` (R224). -/
def execPush_AF (s : State) : Result := push .af s

/-- F8 `LD HL,SP+s8` (R223). -/
def execLd_HL_SPs8 (s8 : Byte) (s : State) : Result := ldHLSp s8 s

/-- F9 `LD SP,HL` (R222). -/
def execLd_SP_HL (s : State) : Result := ldSpHL s

/-- FA `LD A,[a16]` (R210). -/
def execLd_A_mA16 (a16 : Word) (s : State) : Result := ldAFrom a16 16 s

end Sys2Proof.Machine
end

