-- ==== Sys2Proof/Machine/Special.lean ====
section
/-! DEFINITION. Special-purpose instructions (44_special.md R390 to R400): NOP, the accumulator and flag group, interrupt-enable
control, HALT, STOP and the illegal opcodes. -/

namespace Sys2Proof.Machine

/-! ## The shared forms -/

/-- `NOP` (R390). -/
def nop (s : State) : Result := s.retire 4

/-- `DAA` (R391). -/
def adjust (s : State) : Result :=
  let r := daa s.a s.nf s.hf s.cf
  ({ s with a := r.value }.setFlags r.z r.n r.h r.c).retire 4

/-- `CPL` (R392). -/
def complement (s : State) : Result := ({ s with a := ~~~s.a }.setFlags s.zf true true s.cf).retire 4

/-- `SCF` (R393). -/
def setCarry (s : State) : Result := (s.setFlags s.zf false false true).retire 4

/-- `CCF` (R394). -/
def flipCarry (s : State) : Result := (s.setFlags s.zf false false (!s.cf)).retire 4

/-- `EI` (R396). -/
def enable (s : State) : Result := { s with imePending := some true }.retire 4

/-- `DI` (R397). -/
def disable (s : State) : Result :=
  if s.cfg.diImmediate then { s with ime := false }.retire 4 else { s with imePending := some false }.retire 4

/-- `HALT` (R398). -/
def halt (s : State) : Result :=
  if !s.ime && (s.cfg.haltBug && s.req != 0) then { s with haltBug := true }.retire 4
  else { s with mode := .halted }.retire 4

/-- `STOP` (R399): its second byte has been fetched and is ignored. -/
def stopped (_n : Byte) (s : State) : Result := { s with mode := .stopped }.retire 4

/-- The eleven illegal bytes (R400): the condition `IllegalOpcode` is raised, at the state before the step (`State.issue`);
the step is a next state in which `fault` is set (log 6). -/
def illegal (op : Byte) (s : State) : Result := .next (s.raiseIllegal op)

/-! ## The instructions -/

/-- 00 `NOP` (R390). -/
def execNop (s : State) : Result := nop s

/-- 10 `STOP` (R399). -/
def execStop (n8 : Byte) (s : State) : Result := stopped n8 s

/-- 27 `DAA` (R391). -/
def execDaa (s : State) : Result := adjust s

/-- 2F `CPL` (R392). -/
def execCpl (s : State) : Result := complement s

/-- 37 `SCF` (R393). -/
def execScf (s : State) : Result := setCarry s

/-- 3F `CCF` (R394). -/
def execCcf (s : State) : Result := flipCarry s

/-- 76 `HALT` (R398). -/
def execHalt (s : State) : Result := halt s

/-- D3 `ILLEGAL` (R400). -/
def execIllegal_D3 (s : State) : Result := illegal 0xD3 s

/-- DB `ILLEGAL` (R400). -/
def execIllegal_DB (s : State) : Result := illegal 0xDB s

/-- DD `ILLEGAL` (R400). -/
def execIllegal_DD (s : State) : Result := illegal 0xDD s

/-- E3 `ILLEGAL` (R400). -/
def execIllegal_E3 (s : State) : Result := illegal 0xE3 s

/-- E4 `ILLEGAL` (R400). -/
def execIllegal_E4 (s : State) : Result := illegal 0xE4 s

/-- EB `ILLEGAL` (R400). -/
def execIllegal_EB (s : State) : Result := illegal 0xEB s

/-- EC `ILLEGAL` (R400). -/
def execIllegal_EC (s : State) : Result := illegal 0xEC s

/-- ED `ILLEGAL` (R400). -/
def execIllegal_ED (s : State) : Result := illegal 0xED s

/-- F3 `DI` (R397). -/
def execDi (s : State) : Result := disable s

/-- F4 `ILLEGAL` (R400). -/
def execIllegal_F4 (s : State) : Result := illegal 0xF4 s

/-- FB `EI` (R396). -/
def execEi (s : State) : Result := enable s

/-- FC `ILLEGAL` (R400). -/
def execIllegal_FC (s : State) : Result := illegal 0xFC s

/-- FD `ILLEGAL` (R400). -/
def execIllegal_FD (s : State) : Result := illegal 0xFD s

end Sys2Proof.Machine
end

