-- ==== Sys2Proof/Machine/Run.lean ====
section
/-! DEFINITION. The algorithm of one step (30_encoding.md R140), and the placing of an instruction where the next step
fetches it. Machine/Step.lean names both for the host. -/

namespace Sys2Proof.Machine

/-- A step that is idle because the block is Stopped (R140 line 2) or Halted with no request (line 3): nothing changes, and
the step costs 4 cycles. -/
def State.idle (s : State) : State := s.withCycles 4

/-- Lines 5 and 6 of the step: the instruction at PC runs, from the state its fetch leaves. -/
def State.runInstr (s : State) : Result := exec s.fetchInstr (s.issue s.fetchInstr)

/-- Lines 4 to 6 of the step: an interrupt that is due is entered, otherwise the instruction at PC runs. -/
def State.enterOrRun (s : State) : Result := if s.interruptDue then .next s.interruptEntry else s.runInstr

/-- `Step()` (R140). A block that has not been loaded, or whose loading failed, takes no step (R103, R473). -/
def State.takeStep (s : State) : Result :=
  if s.loader.failed then .refused .loadFailed
  else if !s.loader.rom0 then .refused .notInitialised
  else
    match s.fault with
    | some t => .fault (.illegalOpcode t.opcode t.pc)
    | none =>
      match s.mode with
      | .stopped => .next s.idle
      | .halted => if s.req == 0 then .next s.idle else s.enterOrRun
      | .running => s.enterOrRun

/-! ## Placing an instruction -/

/-- Storing bytes from an address upwards, as a loader does: a byte is stored in ROM too; where an address resolves to no
storage nothing is stored. -/
def State.pokeBytes (s : State) (addr : Word) : List Byte → State
  | [] => s
  | v :: vs =>
    match s.resolve addr with
    | .cell r off => (s.storeCell r off v).pokeBytes (addr + 1) vs
    | .illegal => s.pokeBytes (addr + 1) vs

/-- Every one of the three bytes that a fetch at PC reads has storage. -/
def State.fetchable (s : State) : Bool :=
  s.resolve s.pc != .illegal && (s.resolve (s.pc + 1) != .illegal && s.resolve (s.pc + 2) != .illegal)

/-- The state in which the very next step fetches and runs the instruction of the table's number `w` of `nbits` bits: its bytes
are stored at PC (at 0x0100 if PC has no storage), the block is loaded, Running, not faulted and without the halt bug,
and no interrupt is due (log 12). -/
def State.placeInstr (s : State) (nbits w : Nat) : State :=
  let s1 := if s.fetchable then s else { s with pc := 0x0100 }
  let s2 := { s1.pokeBytes s1.pc (tableBytes nbits w) with
    mode := .running
    haltBug := false
    fault := none
    loader := { s.loader with rom0 := true, failed := false } }
  { s2 with ime := s2.ime && !s2.interruptDue }

end Sys2Proof.Machine
end

