-- ==== Sys2Proof/Machine/Step.lean ====
section
/-! DEFINITION. The two names the host calls: one step of the block, and a state whose next step runs a given
instruction. -/

namespace Sys2Proof.Machine

/-- `Step()` (R140). -/
def step (s : State) : Host.Outcome State Fault Refusal := s.takeStep

/-- The instruction of the table's number `w` of `nbits` bits, stored where the next step fetches it. -/
def State.withFetchWord (s : State) (nbits w : Nat) : State := s.placeInstr nbits w

end Sys2Proof.Machine
end

