-- ==== Sys2Proof/Machine/HostCommands.lean ====
section
/-! DEFINITION. What the host and the environment do to the block between two steps (70_reset_and_hazards.md R479,
20_memory.md R102 to R106, 60_exceptions.md R431), and the power-on state (R470). No step calls anything of this file
(R106; log 15). -/

namespace Sys2Proof.Machine

/-! ## Results -/

/-- The conditions a host command can return (R420, R423). -/
inductive HostError where
  | invalidBankRange
  | bankCountMismatch
  | bankIndexOutOfRange (index : Nat)
  deriving DecidableEq, Repr

/-- The condition codes of R420. -/
def HostError.code : HostError → Nat
  | .invalidBankRange => 2
  | .bankCountMismatch => 3
  | .bankIndexOutOfRange _ => 4

/-- The condition code of what a step returned (R420). -/
def StepResult.code : StepResult → Nat
  | .ok _ => 0
  | .err _ => 1

/-- What the block answers to the host or the environment: done, an error with its name (R420), or not a move at all
(R479, "refused when"). -/
inductive HostReply where
  | ok (s : State)
  | error (e : HostError) (s : State)
  | notAMove
  deriving DecidableEq, Repr

/-- The state after a command, when it was a move. -/
def HostReply.state? : HostReply → Option State
  | .ok s => some s
  | .error _ s => some s
  | .notAMove => none

/-! ## Initialisation commands (R102) -/

/-- A bank as the loader supplies it: its declared first and last address and its bytes. -/
structure BankImage where
  first : Nat
  last  : Nat
  bytes : List Byte
  deriving DecidableEq, Repr

/-- The bank is declared for the region's range and has the region's size (R102). -/
def BankImage.fits (r : Region) (x : BankImage) : Bool :=
  x.first == r.base && (x.last == r.base + r.size - 1 && x.bytes.length == r.size)

/-- The bytes of the banks of a switchable region laid end to end. -/
def bankData (banks : List BankImage) : Memory := Memory.ofBytes 0 (banks.flatMap BankImage.bytes)

/-- A step has been taken (R479: a later initialisation is refused). -/
def State.started (s : State) : Bool := s.out.isSome

/-- An initialisation error: the command has no effect, and the block is not started (R103, R423). DESIGN CHOICE (log 22): the
command may be issued again, with no gain, since the block stays unstartable. -/
def State.loadError (s : State) (e : HostError) : HostReply :=
  .error e { s with loader := { s.loader with failed := true } }

/-- `initFixedROM(data)` (R102); refused after the first step and once it has succeeded (R473, R479; after an error, log 22). -/
def State.initFixedROM (s : State) (x : BankImage) : HostReply :=
  if s.started || s.loader.rom0 then .notAMove
  else if x.fits .rom0 then
    .ok { s with
      mem := Memory.ofBytes 0 x.bytes ++ Memory.dropBelow 0x4000 s.mem
      loader := { s.loader with rom0 := true } }
  else s.loadError .invalidBankRange

/-- What the initialisation of a switchable region checks (R102, D32), in the order count, range, index. -/
def checkBanks (r : Region) (count init : Nat) (banks : List BankImage) : Option HostError :=
  if banks.length != count then some .bankCountMismatch
  else if !banks.all (BankImage.fits r) then some .invalidBankRange
  else if 0 < count ∧ count ≤ init then some (.bankIndexOutOfRange init)
  else none

/-- `initSwitchableROM(bankCount, initialBank, bankData)` (R102); refused as `initFixedROM` is (log 22). DESIGN CHOICE: a count above
the 511 of R7 is accepted if it passes the checks of R102 (log 25). -/
def State.initSwitchableROM (s : State) (count init : Nat) (banks : List BankImage) : HostReply :=
  if s.started || s.loader.rom1 then .notAMove
  else
    match checkBanks .rom1 count init banks with
    | some e => s.loadError e
    | none => .ok { s with rom1 := ⟨count, init, init, bankData banks⟩, loader := { s.loader with rom1 := true } }

/-- `initExternalRAM(bankCount, initialBank, persistent, bankData)` (R102); refused as `initFixedROM` is (log 22). -/
def State.initExternalRAM (s : State) (count init : Nat) (persistent : Bool) (banks : List BankImage) : HostReply :=
  if s.started || s.loader.eram then .notAMove
  else
    match checkBanks .eram count init banks with
    | some e => s.loadError e
    | none =>
      .ok { s with
        eram := ⟨count, init, init, bankData banks⟩
        eramPersistent := persistent
        eramDirty := false
        loader := { s.loader with eram := true } }

/-! ## Bank selection (R105) -/

/-- `setXBank(i)` on one region: the new index, if it is below the count. -/
def Banked.select (x : Banked) (i : Nat) : Option Banked := if i < x.count then some { x with index := i } else none

/-- `setSwitchableROMBank(i)` (R105). -/
def State.setSwitchableROMBank (s : State) (i : Nat) : HostReply :=
  match s.rom1.select i with
  | some x => .ok { s with rom1 := x }
  | none => .error (.bankIndexOutOfRange i) s

/-- `setSwitchableWRAMBank(i)` (R105). -/
def State.setSwitchableWRAMBank (s : State) (i : Nat) : HostReply :=
  match s.wram1.select i with
  | some x => .ok { s with wram1 := x }
  | none => .error (.bankIndexOutOfRange i) s

/-- `setExternalRAMBank(i)` (R105). -/
def State.setExternalRAMBank (s : State) (i : Nat) : HostReply :=
  match s.eram.select i with
  | some x => .ok { s with eram := x }
  | none => .error (.bankIndexOutOfRange i) s

/-! ## Reset and power-on (R470, R475) -/

/-- The addresses `IO_BOOT` may give a value (R7): the I/O bytes and IE. -/
def ioBootAddr (a : Word) : Bool := inIoTable a.toNat

/-- Setting the bytes that `IO_BOOT` gives (R470, R475). -/
def Memory.applyIoBoot (m : Memory) (ioBoot : List (Word × Byte)) : Memory :=
  ioBoot.foldl (fun m p => if ioBootAddr p.1 then m.write p.1.toNat p.2 else m) m

/-- The registers at `BOOT_REGS` and the run-control state cleared (R60). -/
def State.bootRegisters (s : State) : State :=
  let r := s.cfg.bootRegs
  { s with
    a := r.a
    f := r.f &&& 0xF0
    b := r.b
    c := r.c
    d := r.d
    e := r.e
    h := r.h
    l := r.l
    sp := r.sp
    pc := r.pc
    ime := false
    imePending := none
    mode := .running
    haltBug := false
    fault := none }

/-- Selecting the initial bank again ("re-addressing", D19). -/
def Banked.readdress (x : Banked) : Banked := { x with index := x.init }

/-- The host's `reset()` (R475): registers, run control, the `IO_BOOT` bytes and the bank indices; nothing else. -/
def State.hostReset (s : State) : State :=
  { s.bootRegisters with
    mem := s.mem.applyIoBoot s.cfg.ioBoot
    rom1 := s.rom1.readdress
    eram := s.eram.readdress
    wram1 := s.wram1.readdress }

/-- The keys of `mem` that `INIT_MEM` may fill: VRAM, WRAM0, OAM, the I/O bytes, HRAM and IE. -/
def ramKey (k : Nat) : Bool :=
  (0x8000 ≤ k && k < 0xA000) || ((0xC000 ≤ k && k < 0xD000) || ((0xFE00 ≤ k && k < 0xFEA0) || (0xFF00 ≤ k && k ≤ 0xFFFF)))

/-- The canonical memory that holds the cells of a list whose key passes a test. -/
def Memory.ofCells (p : Nat → Bool) (cells : List Host.Cell) : Memory :=
  cells.foldl (fun m cell => if p cell.1 then m.write cell.1 cell.2 else m) []

/-- The state at construction (R470), before anything is loaded, for the parameters `cfg` and a draw of `INIT_MEM`: the bytes
by CPU address, and those of the WRAM1 banks laid end to end (R472). A step from it is refused until `initFixedROM`
(R473). DESIGN CHOICE: the two WRAM1 parameters are taken as they are, unchecked (log 24). -/
def State.powerOn (cfg : Config) (initMem initWram1 : List Host.Cell) : State :=
  { State.reset with
    cfg
    mem := (Memory.ofCells ramKey initMem).applyIoBoot cfg.ioBoot
    wram1 := ⟨cfg.wram1Banks, cfg.wram1InitBank, cfg.wram1InitBank,
      Memory.ofCells (fun k => k < cfg.wram1Banks * 0x1000) initWram1⟩
    loader := ⟨false, false, false, false⟩ }.bootRegisters

/-! ## Wake, the environment, and the save flag -/

/-- The host's `wake()` (R478). -/
def State.wake (s : State) : State :=
  match s.mode with
  | .stopped => { s with mode := .running }
  | .running => s
  | .halted => s

/-- `ENV_WRITES` names bit `n` of the byte at `addr` (R7, R431). -/
def State.envNamesBit (s : State) (addr : Word) (n : Nat) : Bool :=
  s.cfg.envWrites.any fun p => p.addr == addr && p.mask.getLsbD n

/-- `sendInterrupt(n)` (R431): sets bit n of IF; it is refused for n > 4, and where `ENV_WRITES` leaves bit n of IF out, since the
environment writes only the addresses and bits of `ENV_WRITES` (R7, D23; log 21). -/
def State.sendInterrupt (s : State) (n : Nat) : HostReply :=
  if decide (n ≤ 4) && s.envNamesBit addrIF n then .ok (s.writeByte addrIF (s.readByte addrIF ||| (1#8 <<< n))) else .notAMove

/-- The port allows the byte `old` to become `new`: only its bits change, and a set-only port clears none (log 17). -/
def portAllows (p : EnvPort) (old new : Byte) : Bool :=
  (old ^^^ new) &&& ~~~p.mask == 0 && (!p.setOnly || old &&& ~~~new == 0)

/-- An environment write (R431, R479): inside `ENV_WRITES` it stores the byte, otherwise it is refused. -/
def State.envWrite (s : State) (addr : Word) (v : Byte) : HostReply :=
  if s.cfg.envWrites.any fun p => p.addr == addr && portAllows p (s.readByte addr) v then .ok (s.writeByte addr v) else .notAMove

/-- The host clears `ERAM.dirty` (R479). -/
def State.clearDirty (s : State) : State := { s with eramDirty := false }

/-! ## All moves -/

/-- The moves of the host and the environment that change the block (R479), `step` apart. Reading a byte (`State.readByte`),
the dirty flag or an ERAM bank changes nothing. -/
inductive HostMove where
  | initFixedROM (image : BankImage)
  | initSwitchableROM (count init : Nat) (banks : List BankImage)
  | initExternalRAM (count init : Nat) (persistent : Bool) (banks : List BankImage)
  | setSwitchableROMBank (i : Nat)
  | setSwitchableWRAMBank (i : Nat)
  | setExternalRAMBank (i : Nat)
  | reset
  | wake
  | sendInterrupt (n : Nat)
  | envWrite (addr : Word) (v : Byte)
  | clearDirty
  deriving DecidableEq, Repr

/-- What a move does. -/
def HostMove.apply (s : State) : HostMove → HostReply
  | .initFixedROM image => s.initFixedROM image
  | .initSwitchableROM count init banks => s.initSwitchableROM count init banks
  | .initExternalRAM count init persistent banks => s.initExternalRAM count init persistent banks
  | .setSwitchableROMBank i => s.setSwitchableROMBank i
  | .setSwitchableWRAMBank i => s.setSwitchableWRAMBank i
  | .setExternalRAMBank i => s.setExternalRAMBank i
  | .reset => .ok s.hostReset
  | .wake => .ok s.wake
  | .sendInterrupt n => s.sendInterrupt n
  | .envWrite addr v => s.envWrite addr v
  | .clearDirty => .ok s.clearDirty

end Sys2Proof.Machine
end

