-- ==== Sys2Proof/Safety.lean ====
section
/-! DEFINITION. The states a run can be in: the invariant that every step and every host move keeps, and the launch, end,
failure and hang of a run (70_reset_and_hazards.md R480, R481). -/

namespace Sys2Proof.Machine

/-- The eleven illegal bytes (R155). -/
def illegalBytes : List Byte := [0xD3, 0xDB, 0xDD, 0xE3, 0xE4, 0xEB, 0xEC, 0xED, 0xF4, 0xFC, 0xFD]

/-- The keys of `mem`: the addresses of the regions that are not banked (R80). -/
def fixedKey (k : Nat) : Bool := k < 0x4000 || ramKey k

/-- Every key of a memory passes a test. -/
def Memory.keysIn (p : Nat → Bool) (m : Memory) : Bool := m.all fun cell => p cell.1

/-- A switchable region (R57, R100): canonical bytes, all inside its banks; the current and the initial index below the count
whenever the count is positive. -/
def Banked.ok (x : Banked) (r : Region) : Bool :=
  x.data.wf && (x.data.keysIn (fun k => k < x.count * r.size)
    && (x.count == 0 || (decide (x.index < x.count) && decide (x.init < x.count))))

/-- A recorded fault is an illegal byte, and it is what the last step returned (R421, R477). -/
def State.faultOk (s : State) : Bool :=
  match s.fault with
  | none => true
  | some t => illegalBytes.contains t.opcode && s.out == some (.err t)

/-- The invariant of the block: bits 3 to 0 of F are zero (R46, R299), every memory is canonical and holds only bytes that exist
(R80), the bank indices are in range (R57), the halt bug is pending only while Running (R52, R398), and a recorded
fault is one that a step raised (R421). -/
def State.inv (s : State) : Bool :=
  s.f &&& 0x0F == 0
    && (s.mem.wf && (s.mem.keysIn fixedKey
    && (s.rom1.ok .rom1 && (s.eram.ok .eram && (s.wram1.ok .wram1
    && ((!s.haltBug || s.mode == .running) && s.faultOk))))))

/-- A store that resolves to this place changes it (R80, R92): every byte but those of ROM0 and of the ROM1 banks. -/
def Loc.writable : Loc → Bool
  | .illegal => false
  | .cell .rom0 _ => false
  | .cell .rom1 _ => false
  | .cell _ _ => true

/-- A byte of an ERAM bank (R101). -/
def Loc.inEram : Loc → Bool
  | .illegal => false
  | .cell .eram _ => true
  | .cell _ _ => false

/-- A store at the address lands. -/
def State.writable (s : State) (addr : Word) : Bool := (s.resolve addr).writable

/-- The region has a byte at this offset (R80, R100); the banks of a switchable region lie end to end. -/
def State.hasByte (s : State) (r : Region) (off : Nat) : Bool :=
  match r with
  | .rom1 => off < s.rom1.count * 0x4000
  | .eram => off < s.eram.count * 0x2000
  | .wram1 => off < s.wram1.count * 0x1000
  | r => off < r.size

/-- The launch premises of a run (R480). -/
def State.launch (s : State) : Bool :=
  s.fault == none && (s.mode == .running && (!s.haltBug && (s.imePending == none && (s.loader.rom0 && !s.loader.failed))))

/-- A run is over, with success (R481). -/
def State.ended (s : State) : Bool := s.fault == none && s.mode == .stopped

/-- A run has failed (R481). -/
def State.failed (s : State) : Bool := s.fault.isSome

/-- A state that hangs whatever is requested (R481): Halted with no interrupt line enabled in IE. -/
def State.hung (s : State) : Bool := s.fault == none && (s.mode == .halted && s.readByte addrIE &&& 0x1F == 0)

/-- What can come next in a run: a step, or a move of the host or the environment between two steps (R479, R481). -/
inductive RunEvent where
  | step
  | move (m : HostMove)
  deriving DecidableEq, Repr

/-- The state after one event. A step that is not taken, and a move that is refused, change nothing (R477, R479). -/
def State.apply (s : State) : RunEvent → State
  | .step =>
    match Machine.step s with
    | .next t => t
    | .fault _ => s
    | .refused _ => s
  | .move m =>
    match (m.apply s).state? with
    | some t => t
    | none => s

/-- The state after the first `n` events of a run. -/
def State.after (s : State) (run : Nat → RunEvent) : Nat → State
  | 0 => s
  | n + 1 => (s.after run n).apply (run n)

/-- In this run nothing ever sets an enabled IF bit: at every boundary no line is requested and enabled (R424, R481). -/
def State.neverRequested (s : State) (run : Nat → RunEvent) : Prop := ∀ n, (s.after run n).req = 0

/-- A step is taken at this state, and the block is not Stopped: the run has neither ended nor failed here (R480, R481). -/
def State.goesOn (s : State) : Bool :=
  s.loader.rom0 && (!s.loader.failed && (s.fault == none && s.mode != .stopped))

/-- The run never ends (R481): steps are taken again and again, and at no boundary is it over, failed or reset. A host reset would
begin a new run (log 23). -/
def State.neverEnds (s : State) (run : Nat → RunEvent) : Prop :=
  (∀ n, run n ≠ .move .reset) ∧ (∀ n, ∃ k, n ≤ k ∧ run k = .step) ∧ ∀ n, (s.after run n).goesOn = true

/-- A hang (R481), of a state and the run that follows it: Halted with no line enabled in IE; or Halted when no enabled IF bit
will ever be set; or a run that never ends, such as a tight loop (log 23). -/
def State.hangsIn (s : State) (run : Nat → RunEvent) : Prop :=
  s.hung = true ∨ (s.fault = none ∧ s.mode = .halted ∧ (∀ n, run n ≠ .move .reset) ∧ s.neverRequested run) ∨ s.neverEnds run

/-- At a tight `JR -2` loop (R481, R354): Running, and the instruction at PC is a JR to itself. -/
def State.atTightLoop (s : State) : Bool := s.goesOn && (s.mode == .running && (!s.haltBug && s.fetchInstr == .jr_s8 0xFE))

/-- No interrupt can be entered until something changes (R424): dispatch is off, no enabled line is requested, or IME is 0 and not
about to be 1. -/
def State.noInterruptAhead (s : State) : Bool :=
  !s.cfg.interruptDispatch || (s.req == 0 || (!s.ime && s.imePending != some true))

end Sys2Proof.Machine
end

