-- ==== Sys2Proof/Certificates/Slice0/Obligations.lean ====
section
/-! DEFINITION. The statements for the provers. The vocabulary they share comes first: how an instruction is encoded
(30_encoding.md R143 to R151), which bytes of memory a step stores to (20_memory.md R92), and what it leaves alone. `exec`
runs an instruction from the state its fetch leaves, in which PC is past the instruction's bytes (R44, R140). -/

open Sys2Proof Sys2Proof.Machine

namespace Sys2Proof.Claims

/-! ## Encodings -/

/-- The `r` field (R146). -/
def regCode : Reg8 → Nat
  | .b => 0
  | .c => 1
  | .d => 2
  | .e => 3
  | .h => 4
  | .l => 5
  | .a => 7

/-- The `rr` field (R147). -/
def pairCode : Pair → Nat
  | .bc => 0
  | .de => 1
  | .hl => 2
  | .sp => 3

/-- The `qq` field (R148). -/
def stackCode : StackPair → Nat
  | .bc => 0
  | .de => 1
  | .hl => 2
  | .af => 3

/-- The `cc` field (R149). -/
def condCode : Cond → Nat
  | .nz => 0
  | .z => 1
  | .nc => 2
  | .c => 3

/-- The ALU operation field (R150). -/
def aluCode : AluOp → Nat
  | .add => 0
  | .adc => 1
  | .sub => 2
  | .sbc => 3
  | .and => 4
  | .xor => 5
  | .or => 6
  | .cp => 7

/-- The rotate and shift operation field (R151). -/
def shiftCode : ShiftOp → Nat
  | .rlc => 0
  | .rrc => 1
  | .rl => 2
  | .rr => 3
  | .sla => 4
  | .sra => 5
  | .swap => 6
  | .srl => 7

/-- An instruction of `len` bytes: before it runs, PC has moved past all of them (R44). -/
def TakesBytes (len : Nat) (i : Instr) : Prop :=
  i.length = len ∧ ∀ s : State, s.haltBug = false → (s.issue i).pc = s.pc + BitVec.ofNat 16 len

/-- Format P1 (R143): the byte `op` is the instruction `i`, whatever follows it. -/
def P1 (op : Nat) (i : Instr) : Prop := (∀ n1 n2, decodeOp (BitVec.ofNat 8 op) n1 n2 = i) ∧ TakesBytes 1 i

/-- Format P2: the byte `op` and an 8-bit immediate. -/
def P2 (op : Nat) (i : Byte → Instr) : Prop :=
  ∀ n, (∀ n2, decodeOp (BitVec.ofNat 8 op) n n2 = i n) ∧ TakesBytes 2 (i n)

/-- Format P3: the byte `op` and a 16-bit immediate, low byte first. -/
def P3 (op : Nat) (i : Word → Instr) : Prop :=
  ∀ v, decodeOp (BitVec.ofNat 8 op) (loByte v) (hiByte v) = i v ∧ TakesBytes 3 (i v)

/-- Format X2: the byte 0xCB and the byte `op2`. -/
def X2 (op2 : Nat) (i : Instr) : Prop := (∀ n2, decodeOp 0xCB (BitVec.ofNat 8 op2) n2 = i) ∧ TakesBytes 2 i

/-! ## What a state keeps -/

/-- The registers A to L, apart from those listed, are unchanged. -/
def RegsKept (but : List Reg8) (s t : State) : Prop := ∀ r, r ∉ but → t.reg r = s.reg r

/-- The four flags of `t`; bits 3 to 0 of F are zero (R46, R47). -/
def Flags (t : State) (z n h c : Bool) : Prop := t.zf = z ∧ t.nf = n ∧ t.hf = h ∧ t.cf = c ∧ t.f &&& 0x0F = 0

/-- IME, its pending value, the run mode, the halt bug and the fault are unchanged (R50 to R53). -/
def ControlKept (s t : State) : Prop :=
  t.ime = s.ime ∧ t.imePending = s.imePending ∧ t.mode = s.mode ∧ t.haltBug = s.haltBug ∧ t.fault = s.fault

/-- What no instruction writes (R57, R104): the banks' counts, indices and initial indices, the persistence flag, what has been
loaded, and the parameters. -/
def HostKept (s t : State) : Prop :=
  (t.rom1.count = s.rom1.count ∧ t.rom1.index = s.rom1.index ∧ t.rom1.init = s.rom1.init) ∧
  (t.eram.count = s.eram.count ∧ t.eram.index = s.eram.index ∧ t.eram.init = s.eram.init) ∧
  (t.wram1.count = s.wram1.count ∧ t.wram1.index = s.wram1.index ∧ t.wram1.init = s.wram1.init) ∧
  t.eramPersistent = s.eramPersistent ∧ t.loader = s.loader ∧ t.cfg = s.cfg

/-- The byte last stored, of a list of stores in order, in the place the address `a` resolves to; a store that does not land
stores nothing (R92). -/
def lastStored (s : State) (a : Word) : List (Word × Byte) → Option Byte
  | [] => none
  | w :: ws =>
    match lastStored s a ws with
    | some v => some v
    | none => if s.writable w.1 = true ∧ s.resolve w.1 = s.resolve a then some w.2 else none

/-- From `s` to `t` memory changes by these stores, in order, and by nothing else. Every address reads as the byte last stored
there, and as before where nothing was stored; every byte of every bank that no store reaches is as before; the
dirty flag is set when a store lands in ERAM. That a stored byte reads back needs the canonical form, which `State.inv`
states. -/
def Stores (s t : State) (ws : List (Word × Byte)) : Prop :=
  (∀ a, t.resolve a = s.resolve a) ∧
  (∀ a, lastStored s a ws = none → t.readByte a = s.readByte a) ∧
  (s.inv = true → ∀ a v, lastStored s a ws = some v → t.readByte a = v) ∧
  (∀ r off, s.hasByte r off = true → (∀ w ∈ ws, s.writable w.1 = true → s.resolve w.1 ≠ .cell r off) →
    t.loadCell r off = s.loadCell r off) ∧
  t.eramDirty = (s.eramDirty || ws.any fun w => (s.resolve w.1).inEram)

/-- What every instruction but the control group keeps: the registers not listed, the control state, the host's state; memory
but for the stores; and the step reports the cycle count. -/
def Frame (but : List Reg8) (stores : List (Word × Byte)) (cycles : Nat) (s t : State) : Prop :=
  RegsKept but s t ∧ ControlKept s t ∧ HostKept s t ∧ Stores s t stores ∧ t.out = some (.ok cycles)

/-- F, SP and PC are unchanged. -/
def FlagsSpPcKept (s t : State) : Prop := t.f = s.f ∧ t.sp = s.sp ∧ t.pc = s.pc

/-- The registers of a pair. -/
def pairRegs : Pair → List Reg8
  | .bc => [.b, .c]
  | .de => [.d, .e]
  | .hl => [.h, .l]
  | .sp => []

/-- The predicate of a condition (R149). -/
def condHolds (s : State) : Cond → Bool
  | .nz => s.zf == false
  | .z => s.zf == true
  | .nc => s.cf == false
  | .c => s.cf == true

/-! ## The step -/

/-- The block may take a step: loaded, and not faulted (R53, R473). -/
def Ready (s : State) : Prop := s.loader.rom0 = true ∧ s.loader.failed = false ∧ s.fault = none

/-- The requested and enabled interrupts, IE & IF & 0x1F (R140 line 1). -/
def request (s : State) : Byte := s.readByte 0xFFFF &&& s.readByte 0xFF0F &&& 0x1F

/-- An interrupt is entered at this step (R140 lines 2 to 4): the block is not Stopped, dispatch is on, IME is 1 and a line is
requested and enabled. -/
def EntersInterrupt (s : State) : Prop :=
  Ready s ∧ s.mode ≠ .stopped ∧ s.cfg.interruptDispatch = true ∧ s.ime = true ∧ request s ≠ 0

/-- An instruction is fetched at this step (R140 lines 2 to 6): the block is Running, or Halted with a request, and no interrupt
is entered. -/
def RunsInstruction (s : State) : Prop :=
  Ready s ∧ (s.mode = .running ∨ s.mode = .halted ∧ request s ≠ 0) ∧
    ¬ (s.cfg.interruptDispatch = true ∧ s.ime = true ∧ request s ≠ 0)

/-- The three bytes at PC, as the fetch reads them (R140, R141): under the halt bug the byte at PC is read again. -/
def fetchedBytes (s : State) : List Byte :=
  if s.haltBug then [s.readByte s.pc, s.readByte s.pc, s.readByte (s.pc + 1)]
  else [s.readByte s.pc, s.readByte (s.pc + 1), s.readByte (s.pc + 2)]

end Sys2Proof.Claims

open Sys2Proof.Claims

/-! ## Encoding -/

/-- One word of each family, written out from the maps of R153 and R154. That STOP carries its second byte is the model's choice
(log 19). -/
def Obligations.SampleWordsDecode : Prop :=
  decode [0x78, 0x00, 0x00] = .ok (.ld_A_B, [0x00, 0x00]) ∧ decode [0x01, 0x34, 0x12] = .ok (.ld_BC_d16 0x1234, []) ∧
  decode [0xE0, 0x0F, 0x00] = .ok (.ldh_mA8_A 0x0F, [0x00]) ∧ decode [0xF5, 0x00, 0x00] = .ok (.push_AF, [0x00, 0x00]) ∧
  decode [0x9E, 0x00, 0x00] = .ok (.sbc_A_mHL, [0x00, 0x00]) ∧ decode [0xE8, 0xFF, 0x00] = .ok (.add_SP_s8 0xFF, [0x00]) ∧
  decode [0xCB, 0x7C, 0x00] = .ok (.bit_7_H, [0x00]) ∧ decode [0xCB, 0x9E, 0x00] = .ok (.res_3_mHL, [0x00]) ∧
  decode [0x20, 0x05, 0x00] = .ok (.jr_NZ_s8 0x05, [0x00]) ∧ decode [0xCD, 0x34, 0x12] = .ok (.call_a16 0x1234, []) ∧
  decode [0x10, 0x55, 0x00] = .ok (.stop 0x55, [0x00]) ∧ decode [0xD3, 0x00, 0x00] = .ok (.illegal_D3, [0x00, 0x00])

/-- Decoding an encoded whole instruction gives it back, whatever bytes follow. -/
def Obligations.DecodeOfEncode : Prop :=
  ∀ (i : Instr) (rest : List Byte), i.wellFormed = true → decode (encode i ++ rest) = .ok (i, rest)

/-- Encoding what was decoded gives the bytes back: no bit is dropped, and no two words decode to the same term of `Instr`. Two
words that differ only in STOP's second byte are the same STOP to the spec (R143, R399): that they are different terms is the
model's choice, which keeps the byte in the syntax (log 19), and so is the term for the byte 0xCB standing alone (log 10). -/
def Obligations.EncodeOfDecode : Prop :=
  ∀ (bytes : List Byte) (i : Instr) (rest : List Byte), decode bytes = .ok (i, rest) → encode i ++ rest = bytes

/-- R142: the first byte alone tells the length, which is 3 for the forms with d16 or a16, 2 for those with d8, s8 or a8, for
STOP and after 0xCB, and 1 for all others; bytes past the length do not change the instruction. -/
def Obligations.LengthFromFirstByte : Prop :=
  ∀ op n1 n2 : Byte,
    (decodeOp op n1 n2).length =
      (if op ∈ ([0x01, 0x08, 0x11, 0x21, 0x31, 0xC2, 0xC3, 0xC4, 0xCA, 0xCC, 0xCD, 0xD2, 0xD4, 0xDA, 0xDC, 0xEA, 0xFA] : List Byte) then 3
      else if op ∈ ([0x06, 0x0E, 0x16, 0x1E, 0x26, 0x2E, 0x36, 0x3E, 0xC6, 0xCE, 0xD6, 0xDE, 0xE6, 0xEE, 0xF6, 0xFE, 0x18, 0x20, 0x28, 0x30,
        0x38, 0xE8, 0xF8, 0xE0, 0xF0, 0x10, 0xCB] : List Byte) then 2
      else 1) ∧
    ((decodeOp op n1 n2).length = 1 → ∀ m1 m2, decodeOp op m1 m2 = decodeOp op n1 n2) ∧
    ((decodeOp op n1 n2).length = 2 → ∀ m2, decodeOp op n1 m2 = decodeOp op n1 n2)

/-- R155, R157: exactly eleven first bytes are illegal; every other first byte, and every byte after 0xCB, is an instruction; an
illegal byte fetched as an operand is data. -/
def Obligations.IllegalBytesExactly : Prop :=
  ∀ op n1 n2 : Byte,
    ((decodeOp op n1 n2).isIllegal = true ↔
      op ∈ ([0xD3, 0xDB, 0xDD, 0xE3, 0xE4, 0xEB, 0xEC, 0xED, 0xF4, 0xFC, 0xFD] : List Byte)) ∧
    (decodeOp op n1 n2).wellFormed = true ∧
    ((decodeOp op n1 n2).isIllegal = true → encode (decodeOp op n1 n2) = [op])

/-! ## The step -/

/-- R140 lines 5 and 6: when the block runs an instruction and the bytes at PC decode to `i`, the step is `exec i`, at the state
where a Halted block is Running again, the pending IME value has been applied, PC is past the instruction's bytes
and the halt bug is spent; an illegal opcode runs at the unchanged state (R421). -/
def Obligations.StepRunsDecodedInstruction : Prop :=
  ∀ (s : State) (i : Instr) (rest : List Byte), RunsInstruction s → decode (fetchedBytes s) = .ok (i, rest) →
    (i.isIllegal = true → step s = exec i s) ∧
    (i.isIllegal = false → step s = exec i { s with
      mode := .running
      ime := match s.imePending with
        | some v => v
        | none => s.ime
      imePending := none
      pc := if s.haltBug then s.pc + BitVec.ofNat 16 (i.length - 1) else s.pc + BitVec.ofNat 16 i.length
      haltBug := false })

/-- The row of the byte 0xCB standing alone (R140 line 6, R141; log 10): the next byte is fetched, PC moves past it, and it is
dispatched through the extended table. That the row has a meaning of its own is the model's choice. -/
def Obligations.PrefixByteDispatches : Prop :=
  ∀ s : State, ∃ t, exec .prefixCB s = .next t ∧
    exec (decodeOp 0xCB (s.readByte s.pc) 0) { s with pc := s.pc + 1 } = .next t

/-- R422: no instruction traps but an illegal opcode: from every state every instruction gives a next state, with the fault
as it was and a cycle count reported, or, for the eleven illegal opcodes, with the fault recorded. -/
def Obligations.EveryInstructionCompletes : Prop :=
  ∀ (i : Instr) (s : State), ∃ t, exec i s = .next t ∧
    (i.isIllegal = false → t.fault = s.fault ∧ ∃ n, 4 ≤ n ∧ n ≤ 24 ∧ t.out = some (.ok n)) ∧
    (i.isIllegal = true → t.fault.isSome = true)

/-- R477: a step returns `Ok` with a cycle count or `Err` with the recorded opcode and PC; with a fault set it takes no step
and returns the recorded error again. -/
def Obligations.StepResult : Prop :=
  (∀ s t : State, step s = .next t →
    s.fault = none ∧ ((t.fault = none ∧ ∃ n, t.out = some (.ok n)) ∨ ∃ trap, t.fault = some trap ∧ t.out = some (.err trap))) ∧
  (∀ (s : State) (trap : Trap), s.loader.rom0 = true → s.loader.failed = false → s.fault = some trap →
    step s = .fault (.illegalOpcode trap.opcode trap.pc)) ∧
  (∀ s : State, Ready s → ∃ t, step s = .next t)

/-- R421, R400: a step that fetches an illegal byte records the byte and its address and changes nothing else; the next step is
not taken. -/
def Obligations.IllegalOpcodeAborts : Prop :=
  ∀ op ∈ ([0xD3, 0xDB, 0xDD, 0xE3, 0xE4, 0xEB, 0xEC, 0xED, 0xF4, 0xFC, 0xFD] : List Byte),
    (∀ n1 n2 : Byte, (decodeOp op n1 n2).length = 1 ∧ ∀ s : State, exec (decodeOp op n1 n2) s =
      .next { s with fault := some ⟨op, s.pc⟩, out := some (.err ⟨op, s.pc⟩) }) ∧
    ∀ s : State, RunsInstruction s → s.readByte s.pc = op →
      step s = .next { s with fault := some ⟨op, s.pc⟩, out := some (.err ⟨op, s.pc⟩) } ∧
      step { s with fault := some ⟨op, s.pc⟩, out := some (.err ⟨op, s.pc⟩) } = .fault (.illegalOpcode op s.pc)

/-- R425, R427: taking an interrupt. `n` is the lowest line requested and enabled; its request is cleared in IF, PC is pushed, IME
and its pending value are cleared, PC becomes 0x40 + 8n, and the step costs 20 cycles. Nothing else changes. -/
def Obligations.InterruptEntry : Prop :=
  ∀ (s : State) (n : Nat), EntersInterrupt s → n ≤ 4 → (request s).getLsbD n = true → (∀ m < n, (request s).getLsbD m = false) →
    ∃ t, step s = .next t ∧ t.pc = BitVec.ofNat 16 (0x40 + 8 * n) ∧ t.sp = s.sp - 2 ∧ t.f = s.f ∧
      t.ime = false ∧ t.imePending = none ∧ t.mode = .running ∧ t.haltBug = s.haltBug ∧ t.fault = none ∧
      RegsKept [] s t ∧ HostKept s t ∧
      Stores s t [(0xFF0F, s.readByte 0xFF0F &&& ~~~(1#8 <<< n)), (s.sp - 1, hiByte s.pc), (s.sp - 2, loByte s.pc)] ∧
      t.out = some (.ok 20)

/-- R426, R399, R441: a Halted block with no request does nothing for 4 cycles, and so does a Stopped block whatever IE and IF hold.
A Halted block with a request does in this step what a Running one does: it enters the interrupt when it may, and
otherwise runs the instruction after HALT (an illegal one aborts the step, the wake included, R421). -/
def Obligations.HaltWakeAndIdleSteps : Prop :=
  (∀ s : State, Ready s → s.mode = .halted → request s = 0 → step s = .next { s with out := some (.ok 4) }) ∧
  (∀ s : State, Ready s → s.mode = .stopped → step s = .next { s with out := some (.ok 4) }) ∧
  (∀ s : State, Ready s → s.mode = .halted → request s ≠ 0 →
    EntersInterrupt s ∨ (decodeOp (s.readByte s.pc) 0 0).isIllegal = false → step s = step { s with mode := .running })

/-- R50, R365, R395: every instruction but EI, DI and RETI leaves IME and its pending value alone, so that a step that runs one,
not illegal, ends with the value that was pending, applied. Interrupt entry, idle steps and illegal opcodes are not its subject. -/
def Obligations.PendingImeApplied : Prop :=
  (∀ (i : Instr) (s t : State), i ≠ .ei → i ≠ .di → i ≠ .reti → exec i s = .next t → t.ime = s.ime ∧ t.imePending = s.imePending) ∧
  (∀ (s t : State), RunsInstruction s → s.fetchInstr ≠ .ei → s.fetchInstr ≠ .di → s.fetchInstr ≠ .reti →
    s.fetchInstr.isIllegal = false → step s = .next t →
    t.ime = (match s.imePending with
      | some v => v
      | none => s.ime) ∧ t.imePending = none)

/-- R51, R52: a step enters Halted or the halt bug only by HALT, enters Stopped only by STOP, and never leaves Stopped. -/
def Obligations.ModeWriters : Prop :=
  ∀ s t : State, step s = .next t →
    (s.mode = .stopped → t.mode = .stopped) ∧
    (t.mode = .stopped → s.mode = .stopped ∨ ∃ n, s.fetchInstr = .stop n) ∧
    (t.mode = .halted → s.mode = .halted ∨ s.fetchInstr = .halt) ∧
    (t.haltBug = true → s.haltBug = true ∨ s.fetchInstr = .halt)

/-- R48: no load, store, jump, call, return or RST writes a flag, except POP AF and `LD HL,SP+s8`; neither do RES, SET, `INC rr`,
`DEC rr`, NOP, HALT, STOP, EI and DI (R160). -/
def Obligations.FlagsOnlyByTheirWriters : Prop :=
  ∀ (op n1 n2 : Byte) (s t : State), exec (decodeOp op n1 n2) s = .next t →
    (op.toNat / 64 = 1 ∨
      op.toNat / 64 = 0 ∧ op.toNat % 8 ∈ [0, 2, 3, 6] ∨
      op.toNat / 64 = 0 ∧ op.toNat % 16 = 1 ∨
      op.toNat / 64 = 3 ∧ op.toNat % 8 ∈ [2, 4, 5, 7] ∨
      op.toNat / 64 = 3 ∧ op.toNat % 8 = 0 ∧ op ≠ 0xE8 ∧ op ≠ 0xF8 ∨
      op.toNat / 64 = 3 ∧ op.toNat % 8 = 1 ∧ op ≠ 0xF1 ∨
      op.toNat / 64 = 3 ∧ op.toNat % 8 = 3 ∧ op ≠ 0xCB ∨
      op = 0xCB ∧ 2 ≤ n1.toNat / 64) →
    t.f = s.f

/-! ## The invariant -/

/-- The invariant holds after reset. Memory at reset is the model's choice (log 3, log 4). -/
def Obligations.InvariantAtReset : Prop := State.reset.inv = true

/-- Every step keeps the invariant: bits 3 to 0 of F stay zero (R46, R299), memory stays canonical and inside its
regions (R80), the bank indices stay in range (R57), the halt bug is pending only while Running (R52), a recorded fault
is an illegal byte that the last step returned (R421). -/
def Obligations.InvariantStep : Prop := ∀ s t : State, s.inv = true → step s = .next t → t.inv = true

/-- Every move of the host and the environment between two steps (R479) keeps the invariant. -/
def Obligations.InvariantHostMoves : Prop :=
  ∀ (s t : State) (m : HostMove), s.inv = true → (m.apply s).state? = some t → t.inv = true

/-- The state at power-on has the invariant for every setting of the parameters whose WRAM1 bank is in range and for every
`INIT_MEM` (R57, R470, R472). -/
def Obligations.InvariantAtPowerOn : Prop :=
  ∀ (cfg : Config) (initMem initWram1 : List Host.Cell), cfg.wram1InitBank < cfg.wram1Banks →
    (State.powerOn cfg initMem initWram1).inv = true

/-! ## Reset and the host -/

/-- R60, R470: the registers and the run control after power-on and after every host reset, and the defaults of `BOOT_REGS`. -/
def Obligations.ResetRegisters : Prop :=
  (∀ (cfg : Config) (m w : List Host.Cell) (s : State), ∀ t ∈ [State.powerOn cfg m w, { s with cfg }.hostReset],
    t.a = cfg.bootRegs.a ∧ t.f = cfg.bootRegs.f &&& 0xF0 ∧ t.b = cfg.bootRegs.b ∧ t.c = cfg.bootRegs.c ∧ t.d = cfg.bootRegs.d ∧
    t.e = cfg.bootRegs.e ∧ t.h = cfg.bootRegs.h ∧ t.l = cfg.bootRegs.l ∧ t.sp = cfg.bootRegs.sp ∧ t.pc = cfg.bootRegs.pc ∧
    t.ime = false ∧ t.imePending = none ∧ t.mode = .running ∧ t.haltBug = false ∧ t.fault = none) ∧
  (State.reset.cfg = {} ∧ State.reset.af = 0x0180 ∧ State.reset.bc = 0x0013 ∧ State.reset.de = 0x00D8 ∧ State.reset.hl = 0x014D ∧
    State.reset.sp = 0xFFFE ∧ State.reset.pc = 0x0100 ∧ State.reset.ime = false ∧ State.reset.imePending = none ∧
    State.reset.mode = .running ∧ State.reset.haltBug = false ∧ State.reset.fault = none ∧ State.reset.eramDirty = false)

/-- R475: what the host's reset sets, and that it leaves everything else alone; no other move of the host or the environment
clears a recorded fault. -/
def Obligations.HostReset : Prop :=
  (∀ (s t : State) (m : HostMove), m ≠ .reset → (m.apply s).state? = some t → t.fault = s.fault) ∧
  ∀ s : State, s.inv = true →
    s.hostReset.a = s.cfg.bootRegs.a ∧ s.hostReset.f = s.cfg.bootRegs.f &&& 0xF0 ∧ s.hostReset.b = s.cfg.bootRegs.b ∧
    s.hostReset.c = s.cfg.bootRegs.c ∧ s.hostReset.d = s.cfg.bootRegs.d ∧ s.hostReset.e = s.cfg.bootRegs.e ∧
    s.hostReset.h = s.cfg.bootRegs.h ∧ s.hostReset.l = s.cfg.bootRegs.l ∧ s.hostReset.sp = s.cfg.bootRegs.sp ∧
    s.hostReset.pc = s.cfg.bootRegs.pc ∧ s.hostReset.ime = false ∧ s.hostReset.imePending = none ∧ s.hostReset.mode = .running ∧
    s.hostReset.haltBug = false ∧ s.hostReset.fault = none ∧
    (∀ addr v, (addr, v) ∈ s.cfg.ioBoot → (0xFF00 ≤ addr.toNat ∧ addr.toNat ≤ 0xFF7F ∨ addr.toNat = 0xFFFF) →
      (∀ v', (addr, v') ∈ s.cfg.ioBoot → v' = v) → s.hostReset.readByte addr = v) ∧
    (∀ r off, s.hasByte r off = true → (r = .io ∨ r = .ie → ∀ w ∈ s.cfg.ioBoot, w.1.toNat ≠ r.base + off) →
      s.hostReset.loadCell r off = s.loadCell r off) ∧
    (s.hostReset.rom1.index = s.rom1.init ∧ s.hostReset.eram.index = s.eram.init ∧ s.hostReset.wram1.index = s.wram1.init) ∧
    (s.hostReset.rom1.count = s.rom1.count ∧ s.hostReset.eram.count = s.eram.count ∧ s.hostReset.wram1.count = s.wram1.count) ∧
    s.hostReset.eramPersistent = s.eramPersistent ∧ s.hostReset.eramDirty = s.eramDirty

/-- R478: `wake` makes a Stopped block Running and does nothing otherwise; no step and no other move but `reset` leaves
Stopped. -/
def Obligations.Wake : Prop :=
  (∀ s : State, (s.mode = .stopped → s.wake = { s with mode := .running }) ∧ (s.mode ≠ .stopped → s.wake = s)) ∧
  (∀ (s t : State) (m : HostMove), s.mode = .stopped → m ≠ .reset → m ≠ .wake → (m.apply s).state? = some t → t.mode = .stopped) ∧
  (∀ s t : State, s.mode = .stopped → step s = .next t → t.mode = .stopped)

/-- R431, R7: `sendInterrupt(n)` sets bit n of IF for n up to 4 when `ENV_WRITES` names that bit, as its default does for all five,
and is refused otherwise (log 21); nothing else of memory changes. -/
def Obligations.SendInterrupt : Prop :=
  ∀ (s : State) (n : Nat),
    (n ≤ 4 → s.cfg.envWrites = ({} : Config).envWrites ∨ (∃ p ∈ s.cfg.envWrites, p.addr = 0xFF0F ∧ p.mask.getLsbD n = true) → ∃ t, s.sendInterrupt n = .ok t ∧ RegsKept [] s t ∧ FlagsSpPcKept s t ∧ ControlKept s t ∧ HostKept s t ∧
      Stores s t [(0xFF0F, s.readByte 0xFF0F ||| (1#8 <<< n))]) ∧
    (4 < n ∨ (∀ p ∈ s.cfg.envWrites, p.addr = 0xFF0F → p.mask.getLsbD n = false) → s.sendInterrupt n = .notAMove)

/-- R431, R479 under the default `ENV_WRITES` (log 17): the environment may write any value to LY, and may set bits 0 to 4 of IF;
the write is then a byte write and nothing else, and any other write is no move of the environment. -/
def Obligations.EnvironmentWrite : Prop :=
  ∀ (s : State) (addr : Word) (v : Byte), s.cfg.envWrites = ({} : Config).envWrites →
    (addr = 0xFF44 ∨ addr = 0xFF0F ∧ (∀ k < 8, v.getLsbD k = (s.readByte addr).getLsbD k ∨ k < 5 ∧ v.getLsbD k = true) →
      ∃ t, s.envWrite addr v = .ok t ∧ RegsKept [] s t ∧ FlagsSpPcKept s t ∧ ControlKept s t ∧ HostKept s t ∧ Stores s t [(addr, v)]) ∧
    (¬ (addr = 0xFF44 ∨ addr = 0xFF0F ∧ (∀ k < 8, v.getLsbD k = (s.readByte addr).getLsbD k ∨ k < 5 ∧ v.getLsbD k = true)) →
      s.envWrite addr v = .notAMove)

/-- R105: a bank-select command sets the index when it is below the count, and otherwise returns `BankIndexOutOfRange` and
changes nothing. -/
def Obligations.BankSelect : Prop :=
  ∀ (s : State) (i : Nat),
    s.setSwitchableROMBank i =
      (if i < s.rom1.count then .ok { s with rom1 := { s.rom1 with index := i } } else .error (.bankIndexOutOfRange i) s) ∧
    s.setSwitchableWRAMBank i =
      (if i < s.wram1.count then .ok { s with wram1 := { s.wram1 with index := i } } else .error (.bankIndexOutOfRange i) s) ∧
    s.setExternalRAMBank i =
      (if i < s.eram.count then .ok { s with eram := { s.eram with index := i } } else .error (.bankIndexOutOfRange i) s)

/-- R102 of the banks supplied for a switchable region: every bank is declared for the region's range and has its size, there are
`count` of them, and the initial bank is below a non-zero count. -/
structure Sys2Proof.Claims.BanksOk (first last size count init : Nat) (banks : List BankImage) : Prop where
  fit : ∀ x ∈ banks, x.first = first ∧ x.last = last ∧ x.bytes.length = size
  counted : banks.length = count
  initial : 0 < count → init < count

/-- An initialisation command that returns an error changes nothing but that the block can no longer be started (R103, R423); the
error is named when one check alone fails. -/
def Sys2Proof.Claims.LoadRejected (first last size count init : Nat) (banks : List BankImage) (s : State) (reply : HostReply) : Prop :=
  ∃ e t, reply = .error e t ∧ t = { s with loader := { s.loader with failed := true } } ∧ step t = .refused .loadFailed ∧
    (banks.length = count → (0 < count → init < count) → e = .invalidBankRange) ∧
    ((∀ x ∈ banks, x.first = first ∧ x.last = last ∧ x.bytes.length = size) → (0 < count → init < count) → e = .bankCountMismatch) ∧
    ((∀ x ∈ banks, x.first = first ∧ x.last = last ∧ x.bytes.length = size) → banks.length = count → e = .bankIndexOutOfRange init)

/-- R102, R103, R423: the three initialisation commands before the first step. Each answers ok exactly when every bank is declared
for the region's range and has its size, the number of banks is the declared count, and the initial bank is below a
non-zero count; then the region holds the loader's bytes, count and index. Otherwise it changes nothing and the block is not
started: no later step is taken. That a command which returned an error may be issued again is the model's choice (log 22), and so is
that a ROM1 count above 511 is accepted (log 25). -/
def Obligations.Initialisation : Prop :=
  (∀ (s : State) (x : BankImage), s.started = false → s.loader.rom0 = false →
    (x.first = 0x0000 ∧ x.last = 0x3FFF ∧ x.bytes.length = 0x4000 →
      ∃ t, s.initFixedROM x = .ok t ∧ t.loader.rom0 = true ∧
        ∀ off, (h : off < x.bytes.length) → t.loadCell .rom0 off = x.bytes[off]) ∧
    (¬ (x.first = 0x0000 ∧ x.last = 0x3FFF ∧ x.bytes.length = 0x4000) →
      LoadRejected 0x0000 0x3FFF 0x4000 1 0 [x] s (s.initFixedROM x))) ∧
  (∀ (s : State) (count init : Nat) (banks : List BankImage), s.started = false → s.loader.rom1 = false →
    (BanksOk 0x4000 0x7FFF 0x4000 count init banks →
      ∃ t, s.initSwitchableROM count init banks = .ok t ∧ t.rom1.count = count ∧ t.rom1.index = init ∧ t.rom1.init = init ∧
        ∀ i (hi : i < banks.length) off (ho : off < banks[i].bytes.length), t.loadCell .rom1 (i * 0x4000 + off) = banks[i].bytes[off]) ∧
    (¬ BanksOk 0x4000 0x7FFF 0x4000 count init banks →
      LoadRejected 0x4000 0x7FFF 0x4000 count init banks s (s.initSwitchableROM count init banks))) ∧
  (∀ (s : State) (count init : Nat) (persistent : Bool) (banks : List BankImage), s.started = false → s.loader.eram = false →
    (BanksOk 0xA000 0xBFFF 0x2000 count init banks →
      ∃ t, s.initExternalRAM count init persistent banks = .ok t ∧ t.eram.count = count ∧ t.eram.index = init ∧ t.eram.init = init ∧
        t.eramPersistent = persistent ∧ t.eramDirty = false ∧
        ∀ i (hi : i < banks.length) off (ho : off < banks[i].bytes.length), t.loadCell .eram (i * 0x2000 + off) = banks[i].bytes[off]) ∧
    (¬ BanksOk 0xA000 0xBFFF 0x2000 count init banks →
      LoadRejected 0xA000 0xBFFF 0x2000 count init banks s (s.initExternalRAM count init persistent banks)))

/-! ## Memory -/

/-- R86: the address decoder, range by range, with the switchable regions through their current bank. The I/O table's precedence
cannot be observed (R85). -/
def Obligations.AddressMap : Prop :=
  ∀ (s : State) (addr : Word) (a : Nat), addr.toNat = a →
    (a ≤ 0x3FFF → s.resolve addr = .cell .rom0 a) ∧
    (0x4000 ≤ a ∧ a ≤ 0x7FFF → s.resolve addr =
      if 0 < s.rom1.count ∧ s.rom1.index < s.rom1.count then .cell .rom1 (s.rom1.index * 0x4000 + (a - 0x4000)) else .illegal) ∧
    (0x8000 ≤ a ∧ a ≤ 0x9FFF → s.resolve addr = .cell .vram (a - 0x8000)) ∧
    (0xA000 ≤ a ∧ a ≤ 0xBFFF → s.resolve addr =
      if 0 < s.eram.count ∧ s.eram.index < s.eram.count then .cell .eram (s.eram.index * 0x2000 + (a - 0xA000)) else .illegal) ∧
    (0xC000 ≤ a ∧ a ≤ 0xCFFF → s.resolve addr = .cell .wram0 (a - 0xC000)) ∧
    (0xD000 ≤ a ∧ a ≤ 0xDFFF → s.resolve addr =
      if 0 < s.wram1.count ∧ s.wram1.index < s.wram1.count then .cell .wram1 (s.wram1.index * 0x1000 + (a - 0xD000)) else .illegal) ∧
    (0xE000 ≤ a ∧ a ≤ 0xFDFF → s.resolve addr = s.resolve (addr - 0x2000)) ∧
    (0xFE00 ≤ a ∧ a ≤ 0xFE9F → s.resolve addr = .cell .oam (a - 0xFE00)) ∧
    (0xFEA0 ≤ a ∧ a ≤ 0xFEFF → s.resolve addr = .illegal) ∧
    (0xFF00 ≤ a ∧ a ≤ 0xFF7F → s.resolve addr = .cell .io (a - 0xFF00)) ∧
    (0xFF80 ≤ a ∧ a ≤ 0xFFFE → s.resolve addr = .cell .hram (a - 0xFF80)) ∧
    (a = 0xFFFF → s.resolve addr = .cell .ie 0)

/-- R88, R90, R91: a read gives the byte the address resolves to; where it resolves to none, in the reserved range or in a
switchable region without a valid bank, it gives 0xFF and a write changes nothing. -/
def Obligations.IllegalFallback : Prop :=
  (∀ (s : State) (addr : Word) (r : Region) (off : Nat), s.resolve addr = .cell r off → s.readByte addr = s.loadCell r off) ∧
  (∀ (s : State) (addr : Word), s.resolve addr = .illegal → s.readByte addr = 0xFF ∧ ∀ v, s.writeByte addr v = s) ∧
  (∀ (s : State) (addr : Word) (a : Nat), addr.toNat = a →
    (0xFEA0 ≤ a ∧ a ≤ 0xFEFF) ∨ (0x4000 ≤ a ∧ a ≤ 0x7FFF ∧ s.rom1.count ≤ s.rom1.index) ∨
      (0xA000 ≤ a ∧ a ≤ 0xBFFF ∧ s.eram.count ≤ s.eram.index) ∨
      ((0xD000 ≤ a ∧ a ≤ 0xDFFF ∨ 0xF000 ≤ a ∧ a ≤ 0xFDFF) ∧ s.wram1.count ≤ s.wram1.index) →
    s.resolve addr = .illegal)

/-- R92, R93: a write stores the byte where the address resolves to, sets the dirty flag in ERAM, and changes nothing else; in ROM
and where the address resolves to nothing it changes nothing at all. -/
def Obligations.WriteByte : Prop :=
  ∀ (s : State) (addr : Word) (v : Byte),
    Stores s (s.writeByte addr v) [(addr, v)] ∧ RegsKept [] s (s.writeByte addr v) ∧ FlagsSpPcKept s (s.writeByte addr v) ∧
    ControlKept s (s.writeByte addr v) ∧ HostKept s (s.writeByte addr v) ∧
    (addr.toNat ≤ 0x7FFF ∨ s.resolve addr = .illegal → s.writeByte addr v = s)

/-- R101: the block never clears the dirty flag and never writes the persistence flag. -/
def Obligations.DirtyNeverCleared : Prop :=
  ∀ s t : State, step s = .next t → t.eramPersistent = s.eramPersistent ∧ (s.eramDirty = true → t.eramDirty = true)

/-- R104, R57: no step selects a bank or changes a byte of ROM; counts, indices, what was loaded and the parameters are the
host's alone. -/
def Obligations.RomAndBanksKeptByEveryStep : Prop :=
  ∀ s t : State, step s = .next t →
    HostKept s t ∧ (∀ off, off < 0x4000 → t.loadCell .rom0 off = s.loadCell .rom0 off) ∧ t.rom1 = s.rom1

/-- Equal memories are equal data: two canonical lists that read alike are the same list. -/
def Obligations.CanonicalMemoryIsUnique : Prop :=
  ∀ m m' : Memory, m.wf = true → m'.wf = true → (∀ key, m.read key = m'.read key) → m = m'

/-! ## Loads, stores and the stack -/

/-- R201, R202: `LD r,r'` and `LD r,d8`. -/
def Obligations.LoadRegister : Prop :=
  (∀ dst src : Reg8, P1 (0x40 + 8 * regCode dst + regCode src) (mkLdReg dst src) ∧
    ∀ s : State, ∃ t, exec (mkLdReg dst src) s = .next t ∧ t.reg dst = s.reg src ∧ FlagsSpPcKept s t ∧ Frame [dst] [] 4 s t) ∧
  (∀ dst : Reg8, P2 (0x06 + 8 * regCode dst) (fun n => mkLdImm n dst) ∧
    ∀ (n : Byte) (s : State), ∃ t, exec (mkLdImm n dst) s = .next t ∧ t.reg dst = n ∧ FlagsSpPcKept s t ∧ Frame [dst] [] 8 s t)

/-- R203: `LD r,[HL]`, the read at the old HL; an illegal address gives 0xFF. -/
def Obligations.LoadFromHL : Prop :=
  ∀ dst : Reg8, P1 (0x46 + 8 * regCode dst) (mkLdFromHL dst) ∧
    ∀ s : State, ∃ t, exec (mkLdFromHL dst) s = .next t ∧ t.reg dst = s.readByte (join s.h s.l) ∧
      (s.resolve (join s.h s.l) = .illegal → t.reg dst = 0xFF) ∧ FlagsSpPcKept s t ∧ Frame [dst] [] 8 s t

/-- R204, R205: `LD [HL],r` and `LD [HL],d8`. -/
def Obligations.StoreToHL : Prop :=
  (∀ src : Reg8, P1 (0x70 + regCode src) (mkLdToHL src) ∧
    ∀ s : State, ∃ t, exec (mkLdToHL src) s = .next t ∧ FlagsSpPcKept s t ∧ Frame [] [(s.hl, s.reg src)] 8 s t) ∧
  (P2 0x36 .ld_mHL_d8 ∧
    ∀ (n : Byte) (s : State), ∃ t, exec (.ld_mHL_d8 n) s = .next t ∧ FlagsSpPcKept s t ∧ Frame [] [(s.hl, n)] 12 s t)

/-- The instruction loads A from the address. -/
def Sys2Proof.Claims.LoadsAccumulator (i : Instr) (addr : State → Word) (cycles : Nat) : Prop :=
    ∀ s : State, ∃ t, exec i s = .next t ∧ t.a = s.readByte (addr s) ∧ FlagsSpPcKept s t ∧ Frame [.a] [] cycles s t

/-- R206, R207, R210, R212, R214: loading A from [BC], [DE], [a16], [C] and [a8]. -/
def Obligations.LoadAccumulator : Prop :=
  (P1 0x0A .ld_A_mBC ∧ LoadsAccumulator .ld_A_mBC (fun s => join s.b s.c) 8) ∧
  (P1 0x1A .ld_A_mDE ∧ LoadsAccumulator .ld_A_mDE (fun s => join s.d s.e) 8) ∧
  (P3 0xFA .ld_A_mA16 ∧ ∀ v, LoadsAccumulator (.ld_A_mA16 v) (fun _ => v) 16) ∧
  (P1 0xF2 .ldh_A_mC ∧ LoadsAccumulator .ldh_A_mC (fun s => 0xFF00 + s.c.setWidth 16) 8) ∧
  (P2 0xF0 .ldh_A_mA8 ∧ ∀ n, LoadsAccumulator (.ldh_A_mA8 n) (fun _ => 0xFF00 + n.setWidth 16) 12)

/-- The instruction stores A at the address. -/
def Sys2Proof.Claims.StoresAccumulator (i : Instr) (addr : State → Word) (cycles : Nat) : Prop :=
    ∀ s : State, ∃ t, exec i s = .next t ∧ FlagsSpPcKept s t ∧ Frame [] [(addr s, s.a)] cycles s t

/-- R208, R209, R211, R213, R215: storing A at [BC], [DE], [a16], [C] and [a8]. -/
def Obligations.StoreAccumulator : Prop :=
  (P1 0x02 .ld_mBC_A ∧ StoresAccumulator .ld_mBC_A State.bc 8) ∧
  (P1 0x12 .ld_mDE_A ∧ StoresAccumulator .ld_mDE_A State.de 8) ∧
  (P3 0xEA .ld_mA16_A ∧ ∀ v, StoresAccumulator (.ld_mA16_A v) (fun _ => v) 16) ∧
  (P1 0xE2 .ldh_mC_A ∧ StoresAccumulator .ldh_mC_A (fun s => 0xFF00 + s.c.setWidth 16) 8) ∧
  (P2 0xE0 .ldh_mA8_A ∧ ∀ n, StoresAccumulator (.ldh_mA8_A n) (fun _ => 0xFF00 + n.setWidth 16) 12)

/-- The instruction loads A from HL, then adds `d` to HL. -/
def Sys2Proof.Claims.LoadsThenMovesHL (i : Instr) (d : Word) : Prop :=
    ∀ s : State, ∃ t, exec i s = .next t ∧ t.a = s.readByte s.hl ∧ t.hl = s.hl + d ∧ FlagsSpPcKept s t ∧ Frame [.a, .h, .l] [] 8 s t

/-- The instruction stores A at HL, then adds `d` to HL. -/
def Sys2Proof.Claims.StoresThenMovesHL (i : Instr) (d : Word) : Prop :=
    ∀ s : State, ∃ t, exec i s = .next t ∧ t.hl = s.hl + d ∧ FlagsSpPcKept s t ∧ Frame [.h, .l] [(s.hl, s.a)] 8 s t

/-- R216 to R219: `LD A,[HL+]`, `LD A,[HL-]`, `LD [HL+],A`, `LD [HL-],A`; HL moves after the access, dropped or not. -/
def Obligations.PostModifyHL : Prop :=
  (P1 0x2A .ld_A_mHLinc ∧ LoadsThenMovesHL .ld_A_mHLinc 1) ∧ (P1 0x3A .ld_A_mHLdec ∧ LoadsThenMovesHL .ld_A_mHLdec (-1)) ∧
  (P1 0x22 .ld_mHLinc_A ∧ StoresThenMovesHL .ld_mHLinc_A 1) ∧ (P1 0x32 .ld_mHLdec_A ∧ StoresThenMovesHL .ld_mHLdec_A (-1))

/-- R220: `LD rr,d16`; the pair's high register takes the high byte. -/
def Obligations.LoadPair : Prop :=
  ∀ p : Pair, P3 (0x01 + 16 * pairCode p) (fun v => mkLdPair v p) ∧
    ∀ (v : Word) (s : State), ∃ t, exec (mkLdPair v p) s = .next t ∧
      (match p with
        | .bc => t.b = hiByte v ∧ t.c = loByte v
        | .de => t.d = hiByte v ∧ t.e = loByte v
        | .hl => t.h = hiByte v ∧ t.l = loByte v
        | .sp => t.sp = v) ∧
      t.f = s.f ∧ (p ≠ .sp → t.sp = s.sp) ∧ t.pc = s.pc ∧ Frame (pairRegs p) [] 12 s t

/-- R221, R222, R223 with R255: `LD [a16],SP`, `LD SP,HL` and `LD HL,SP+s8`. -/
def Obligations.StackPointerLoads : Prop :=
  (P3 0x08 .ld_mA16_SP ∧ ∀ (v : Word) (s : State), ∃ t, exec (.ld_mA16_SP v) s = .next t ∧ FlagsSpPcKept s t ∧
    Frame [] [(v, loByte s.sp), (v + 1, hiByte s.sp)] 20 s t) ∧
  (P1 0xF9 .ld_SP_HL ∧ ∀ s : State, ∃ t, exec .ld_SP_HL s = .next t ∧ t.sp = s.hl ∧ t.f = s.f ∧ t.pc = s.pc ∧ Frame [] [] 8 s t) ∧
  (P2 0xF8 .ld_HL_SPs8 ∧ ∀ (e : Byte) (s : State), ∃ t, exec (.ld_HL_SPs8 e) s = .next t ∧ t.hl = s.sp + e.signExtend 16 ∧
    Flags t false false (decide (s.sp.toNat % 16 + e.toNat % 16 > 0xF)) (decide (s.sp.toNat % 256 + e.toNat > 0xFF)) ∧
    t.sp = s.sp ∧ t.pc = s.pc ∧ Frame [.h, .l] [] 12 s t)

/-- R224: `PUSH qq`: the high byte at SP-1, then the low byte at SP-2; the low byte of AF has bits 3 to 0 zero. -/
def Obligations.PushPair : Prop :=
  ∀ q : StackPair, P1 (0xC5 + 16 * stackCode q) (mkPush q) ∧
    ∀ s : State, ∃ t, exec (mkPush q) s = .next t ∧ t.f = s.f ∧ t.sp = s.sp - 2 ∧ t.pc = s.pc ∧
      Frame [] (match q with
        | .bc => [(s.sp - 1, s.b), (s.sp - 2, s.c)]
        | .de => [(s.sp - 1, s.d), (s.sp - 2, s.e)]
        | .hl => [(s.sp - 1, s.h), (s.sp - 2, s.l)]
        | .af => [(s.sp - 1, s.a), (s.sp - 2, s.f &&& 0xF0)]) 16 s t

/-- R225, R226: `POP qq`: the low byte from SP, the high byte from SP+1; POP AF writes F without its bits 3 to 0; PUSH then POP of a
pair restores it and SP when the two stack bytes can be written. -/
def Obligations.PopPair : Prop :=
  (∀ q : StackPair, P1 (0xC1 + 16 * stackCode q) (mkPop q) ∧
    ∀ s : State, ∃ t, exec (mkPop q) s = .next t ∧ t.sp = s.sp + 2 ∧ t.pc = s.pc ∧
      (match q with
        | .bc => t.b = s.readByte (s.sp + 1) ∧ t.c = s.readByte s.sp ∧ t.f = s.f ∧ Frame [.b, .c] [] 12 s t
        | .de => t.d = s.readByte (s.sp + 1) ∧ t.e = s.readByte s.sp ∧ t.f = s.f ∧ Frame [.d, .e] [] 12 s t
        | .hl => t.h = s.readByte (s.sp + 1) ∧ t.l = s.readByte s.sp ∧ t.f = s.f ∧ Frame [.h, .l] [] 12 s t
        | .af => t.a = s.readByte (s.sp + 1) ∧ t.f = s.readByte s.sp &&& 0xF0 ∧ Frame [.a] [] 12 s t)) ∧
  (∀ (q : StackPair) (s : State), s.inv = true → s.writable (s.sp - 1) = true → s.writable (s.sp - 2) = true →
    ∃ t u, exec (mkPush q) s = .next t ∧ exec (mkPop q) t = .next u ∧ RegsKept [] s u ∧ u.f = s.f ∧ u.sp = s.sp)

/-! ## Arithmetic and logic -/

namespace Sys2Proof.Claims

/-- The three forms of an ALU operation (41_arithmetic.md section 2): register, `[HL]`, immediate. `effect s t v` says what A and
the flags of `t` are for the operand `v`. -/
def AluForms (op : AluOp) (effect : State → State → Byte → Prop) : Prop :=
  (∀ r : Reg8, P1 (0x80 + 8 * aluCode op + regCode r) (mkAluReg op r) ∧
    ∀ s : State, ∃ t, exec (mkAluReg op r) s = .next t ∧ effect s t (s.reg r) ∧ t.sp = s.sp ∧ t.pc = s.pc ∧ Frame [.a] [] 4 s t) ∧
  (P1 (0x86 + 8 * aluCode op) (mkAluHL op) ∧
    ∀ s : State, ∃ t, exec (mkAluHL op) s = .next t ∧ effect s t (s.readByte (join s.h s.l)) ∧ t.sp = s.sp ∧ t.pc = s.pc ∧
      Frame [.a] [] 8 s t) ∧
  (P2 (0xC6 + 8 * aluCode op) (fun n => mkAluImm n op) ∧
    ∀ (n : Byte) (s : State), ∃ t, exec (mkAluImm n op) s = .next t ∧ effect s t n ∧ t.sp = s.sp ∧ t.pc = s.pc ∧ Frame [.a] [] 8 s t)

/-- `Add8(a, b, cin)` (R250) on naturals. -/
def AddEffect (cin : State → Nat) (s t : State) (v : Byte) : Prop :=
  t.a.toNat = (s.a.toNat + v.toNat + cin s) % 256 ∧
  Flags t (t.a == 0) false (decide (s.a.toNat % 16 + v.toNat % 16 + cin s > 0xF)) (decide (s.a.toNat + v.toNat + cin s > 0xFF))

/-- `Sub8(a, b, cin)` (R251) on integers; `keep` says that A is not written, as for CP. -/
def SubEffect (keep : Bool) (cin : State → Nat) (s t : State) (v : Byte) : Prop :=
  let result : Int := ((s.a.toNat : Int) - v.toNat - cin s) % 256
  (if keep then t.a = s.a else (t.a.toNat : Int) = result) ∧
  Flags t (decide (result = 0)) true (decide (s.a.toNat % 16 < v.toNat % 16 + cin s)) (decide (s.a.toNat < v.toNat + cin s))

/-- The logic functions (R252), bit by bit. -/
def LogicEffect (f : Bool → Bool → Bool) (h : Bool) (s t : State) (v : Byte) : Prop :=
  (∀ k < 8, t.a.getLsbD k = f (s.a.getLsbD k) (v.getLsbD k)) ∧ Flags t (t.a == 0) false h false

/-- The carry flag before the instruction, as a number. -/
def carryIn (s : State) : Nat := if s.cf then 1 else 0

end Sys2Proof.Claims

/-- R250, R260 to R265: ADD and ADC. -/
def Obligations.AddAndAdc : Prop := AluForms .add (AddEffect fun _ => 0) ∧ AluForms .adc (AddEffect carryIn)

/-- R251, R266 to R271, R281 to R283: SUB, SBC and CP. -/
def Obligations.SubSbcAndCp : Prop :=
  AluForms .sub (SubEffect false fun _ => 0) ∧ AluForms .sbc (SubEffect false carryIn) ∧ AluForms .cp (SubEffect true fun _ => 0)

/-- R252, R272 to R280: AND, XOR and OR. -/
def Obligations.LogicOperations : Prop :=
  AluForms .and (LogicEffect and true) ∧ AluForms .xor (LogicEffect xor false) ∧ AluForms .or (LogicEffect or false)

/-- R253, R284 to R287: INC and DEC of a register and of `[HL]`; C is left alone, and a dropped write still writes the flags. -/
def Obligations.IncAndDec8 : Prop :=
  (∀ r : Reg8, P1 (0x04 + 8 * regCode r) (mkInc r) ∧ ∀ s : State, ∃ t, exec (mkInc r) s = .next t ∧
    (t.reg r).toNat = ((s.reg r).toNat + 1) % 256 ∧
    Flags t ((s.reg r).toNat == 0xFF) false ((s.reg r).toNat % 16 == 0xF) s.cf ∧ t.sp = s.sp ∧ t.pc = s.pc ∧ Frame [r] [] 4 s t) ∧
  (P1 0x34 .inc_mHL ∧ ∀ s : State, ∃ t, exec .inc_mHL s = .next t ∧
    Flags t ((s.readByte s.hl).toNat == 0xFF) false ((s.readByte s.hl).toNat % 16 == 0xF) s.cf ∧ t.sp = s.sp ∧ t.pc = s.pc ∧
    Frame [] [(s.hl, s.readByte s.hl + 1)] 12 s t) ∧
  (∀ r : Reg8, P1 (0x05 + 8 * regCode r) (mkDec r) ∧ ∀ s : State, ∃ t, exec (mkDec r) s = .next t ∧
    (t.reg r).toNat = ((s.reg r).toNat + 255) % 256 ∧
    Flags t ((s.reg r).toNat == 1) true ((s.reg r).toNat % 16 == 0) s.cf ∧ t.sp = s.sp ∧ t.pc = s.pc ∧ Frame [r] [] 4 s t) ∧
  (P1 0x35 .dec_mHL ∧ ∀ s : State, ∃ t, exec .dec_mHL s = .next t ∧
    Flags t ((s.readByte s.hl).toNat == 1) true ((s.readByte s.hl).toNat % 16 == 0) s.cf ∧ t.sp = s.sp ∧ t.pc = s.pc ∧
    Frame [] [(s.hl, s.readByte s.hl - 1)] 12 s t)

/-- R254, R255, R288, R291: `ADD HL,rr`, which leaves Z alone, and `ADD SP,s8`. -/
def Obligations.AddHLAndAddSP : Prop :=
  (∀ p : Pair, P1 (0x09 + 16 * pairCode p) (mkAddHL p) ∧ ∀ s : State, ∃ t, exec (mkAddHL p) s = .next t ∧
    t.hl.toNat = (s.hl.toNat + (s.pair p).toNat) % 65536 ∧
    Flags t s.zf false (decide (s.hl.toNat % 4096 + (s.pair p).toNat % 4096 > 0xFFF)) (decide (s.hl.toNat + (s.pair p).toNat > 0xFFFF)) ∧
    t.sp = s.sp ∧ t.pc = s.pc ∧ Frame [.h, .l] [] 8 s t) ∧
  (P2 0xE8 .add_SP_s8 ∧ ∀ (e : Byte) (s : State), ∃ t, exec (.add_SP_s8 e) s = .next t ∧ t.sp = s.sp + e.signExtend 16 ∧
    Flags t false false (decide (s.sp.toNat % 16 + e.toNat % 16 > 0xF)) (decide (s.sp.toNat % 256 + e.toNat > 0xFF)) ∧
    t.pc = s.pc ∧ Frame [] [] 16 s t)

/-- R289, R290: `INC rr` and `DEC rr` wrap and write no flag. -/
def Obligations.IncAndDecPair : Prop :=
  ∀ p : Pair,
    (P1 (0x03 + 16 * pairCode p) (mkIncPair p) ∧ ∀ s : State, ∃ t, exec (mkIncPair p) s = .next t ∧ t.pair p = s.pair p + 1 ∧
      t.f = s.f ∧ (p ≠ .sp → t.sp = s.sp) ∧ t.pc = s.pc ∧ Frame (pairRegs p) [] 8 s t) ∧
    (P1 (0x0B + 16 * pairCode p) (mkDecPair p) ∧ ∀ s : State, ∃ t, exec (mkDecPair p) s = .next t ∧ t.pair p = s.pair p - 1 ∧
      t.f = s.f ∧ (p ≠ .sp → t.sp = s.sp) ∧ t.pc = s.pc ∧ Frame (pairRegs p) [] 8 s t)

/-! ## Rotates, shifts and bits -/

namespace Sys2Proof.Claims

/-- `Shift(op, v, c)` (R310) on naturals: the result and the carry-out. -/
def shifted (op : ShiftOp) (v c : Nat) : Nat × Bool :=
  match op with
  | .rlc => (2 * v % 256 + v / 128, v / 128 == 1)
  | .rrc => (v / 2 + 128 * (v % 2), v % 2 == 1)
  | .rl => (2 * v % 256 + c, v / 128 == 1)
  | .rr => (v / 2 + 128 * c, v % 2 == 1)
  | .sla => (2 * v % 256, v / 128 == 1)
  | .sra => (v / 2 + 128 * (v / 128), v % 2 == 1)
  | .swap => (v % 16 * 16 + v / 16, false)
  | .srl => (v / 2, v % 2 == 1)

end Sys2Proof.Claims

/-- The instruction rotates A; Z, N and H are 0. -/
def Sys2Proof.Claims.RotatesAccumulator (i : Instr) (op : ShiftOp) : Prop :=
    ∀ s : State, ∃ t, exec i s = .next t ∧ t.a.toNat = (shifted op s.a.toNat (carryIn s)).1 ∧
      Flags t false false false (shifted op s.a.toNat (carryIn s)).2 ∧ t.sp = s.sp ∧ t.pc = s.pc ∧ Frame [.a] [] 4 s t

/-- R311 to R314 with R310: RLCA, RRCA, RLA, RRA; Z is 0 whatever the result. -/
def Obligations.AccumulatorRotates : Prop :=
  (P1 0x07 .rlca ∧ RotatesAccumulator .rlca .rlc) ∧ (P1 0x0F .rrca ∧ RotatesAccumulator .rrca .rrc) ∧ (P1 0x17 .rla ∧ RotatesAccumulator .rla .rl) ∧
  (P1 0x1F .rra ∧ RotatesAccumulator .rra .rr)

/-- R310, R315, R317, R319, R321, R323, R325, R327, R329: the extended rotates and shifts on a register. -/
def Obligations.ShiftRegister : Prop :=
  ∀ (op : ShiftOp) (r : Reg8), X2 (8 * shiftCode op + regCode r) (mkShiftReg op r) ∧
    ∀ s : State, ∃ t, exec (mkShiftReg op r) s = .next t ∧
      (t.reg r).toNat = (shifted op (s.reg r).toNat (carryIn s)).1 ∧
      Flags t (t.reg r == 0) false false (shifted op (s.reg r).toNat (carryIn s)).2 ∧
      t.sp = s.sp ∧ t.pc = s.pc ∧ Frame [r] [] 8 s t

/-- R310, R316, R318, R320, R322, R324, R326, R328, R330: the extended rotates and shifts on `[HL]`; a dropped write still writes
the flags. -/
def Obligations.ShiftMemory : Prop :=
  ∀ op : ShiftOp, X2 (8 * shiftCode op + 6) (mkShiftHL op) ∧
    ∀ s : State, ∃ t, exec (mkShiftHL op) s = .next t ∧
      (let r := shifted op (s.readByte s.hl).toNat (carryIn s)
       r.1 < 256 ∧ Flags t (r.1 == 0) false false r.2 ∧ Frame [] [(s.hl, BitVec.ofNat 8 r.1)] 16 s t) ∧
      t.sp = s.sp ∧ t.pc = s.pc

/-- The instruction tests bit `b` of a byte. -/
def Sys2Proof.Claims.TestsBit (i : Instr) (b : Nat) (v : State → Byte) (cycles : Nat) : Prop :=
    ∀ s : State, ∃ t, exec i s = .next t ∧
      Flags t ((v s).getLsbD b == false) (if s.cfg.bitSetsNH then false else s.nf) (if s.cfg.bitSetsNH then true else s.hf) s.cf ∧
      t.sp = s.sp ∧ t.pc = s.pc ∧ Frame [] [] cycles s t

/-- R331, R332: BIT writes Z, and N and H only under `BIT_SETS_NH`; nothing else. -/
def Obligations.BitTest : Prop :=
  ∀ b : Fin 8,
    (∀ r : Reg8, X2 (0x40 + 8 * b.val + regCode r) (mkBitReg b r) ∧ TestsBit (mkBitReg b r) b.val (fun s => s.reg r) 8) ∧
    (X2 (0x46 + 8 * b.val) (mkBitHL b) ∧ TestsBit (mkBitHL b) b.val (fun s => s.readByte s.hl) 12)

/-- R333 to R336: RES and SET change one bit, of a register or of the byte at HL, and no flag. -/
def Obligations.ResAndSet : Prop :=
  ∀ b : Fin 8,
    (∀ r : Reg8, X2 (0x80 + 8 * b.val + regCode r) (mkResReg b r) ∧
      ∀ s : State, ∃ t, exec (mkResReg b r) s = .next t ∧
        (∀ k < 8, (t.reg r).getLsbD k = if k = b.val then false else (s.reg r).getLsbD k) ∧ FlagsSpPcKept s t ∧ Frame [r] [] 8 s t) ∧
    (X2 (0x86 + 8 * b.val) (mkResHL b) ∧
      ∀ s : State, ∃ t, exec (mkResHL b) s = .next t ∧ FlagsSpPcKept s t ∧
        Frame [] [(s.hl, s.readByte s.hl &&& ~~~(1#8 <<< b.val))] 16 s t) ∧
    (∀ r : Reg8, X2 (0xC0 + 8 * b.val + regCode r) (mkSetReg b r) ∧
      ∀ s : State, ∃ t, exec (mkSetReg b r) s = .next t ∧
        (∀ k < 8, (t.reg r).getLsbD k = if k = b.val then true else (s.reg r).getLsbD k) ∧ FlagsSpPcKept s t ∧ Frame [r] [] 8 s t) ∧
    (X2 (0xC6 + 8 * b.val) (mkSetHL b) ∧
      ∀ s : State, ∃ t, exec (mkSetHL b) s = .next t ∧ FlagsSpPcKept s t ∧
        Frame [] [(s.hl, s.readByte s.hl ||| (1#8 <<< b.val))] 16 s t)

/-! ## Control flow -/

/-- R350 to R355: JP, JP cc, JP HL, JR and JR cc; the base of JR is the address after the instruction; a form that is not taken
changes nothing but PC, which is past it. -/
def Obligations.Jumps : Prop :=
  (P3 0xC3 .jp_a16 ∧ ∀ (v : Word) (s : State), ∃ t, exec (.jp_a16 v) s = .next t ∧ t.pc = v ∧ t.f = s.f ∧ t.sp = s.sp ∧ Frame [] [] 16 s t) ∧
  (∀ cc : Cond, P3 (0xC2 + 8 * condCode cc) (fun v => mkJpCond v cc) ∧ ∀ (v : Word) (s : State), ∃ t, exec (mkJpCond v cc) s = .next t ∧
    t.pc = (if condHolds s cc then v else s.pc) ∧ t.f = s.f ∧ t.sp = s.sp ∧ Frame [] [] (if condHolds s cc then 16 else 12) s t) ∧
  (P1 0xE9 .jp_HL ∧ ∀ s : State, ∃ t, exec .jp_HL s = .next t ∧ t.pc = s.hl ∧ t.f = s.f ∧ t.sp = s.sp ∧ Frame [] [] 4 s t) ∧
  (P2 0x18 .jr_s8 ∧ ∀ (e : Byte) (s : State), ∃ t, exec (.jr_s8 e) s = .next t ∧ t.pc = s.pc + e.signExtend 16 ∧ t.f = s.f ∧ t.sp = s.sp ∧
    Frame [] [] 12 s t) ∧
  (∀ cc : Cond, P2 (0x20 + 8 * condCode cc) (fun e => mkJrCond e cc) ∧ ∀ (e : Byte) (s : State), ∃ t, exec (mkJrCond e cc) s = .next t ∧
    t.pc = (if condHolds s cc then s.pc + e.signExtend 16 else s.pc) ∧ t.f = s.f ∧ t.sp = s.sp ∧
    Frame [] [] (if condHolds s cc then 12 else 8) s t)

/-- The instruction pushes PC and goes to the target. -/
def Sys2Proof.Claims.CallsTo (i : Instr) (target : Word) (cycles : Nat) (s : State) : Prop :=
    ∃ t, exec i s = .next t ∧ t.pc = target ∧ t.sp = s.sp - 2 ∧ t.f = s.f ∧
      Frame [] [(s.sp - 1, hiByte s.pc), (s.sp - 2, loByte s.pc)] cycles s t

/-- R356, R357, R366: CALL, CALL cc and RST push PC, which is past the instruction, and go to the target; a CALL cc that is not taken
pushes nothing. -/
def Obligations.Calls : Prop :=
  (P3 0xCD .call_a16 ∧ ∀ (v : Word) (s : State), CallsTo (.call_a16 v) v 24 s) ∧
  (∀ cc : Cond, P3 (0xC4 + 8 * condCode cc) (fun v => mkCallCond v cc) ∧ ∀ (v : Word) (s : State),
    (condHolds s cc = true → CallsTo (mkCallCond v cc) v 24 s) ∧
    (condHolds s cc = false → ∃ t, exec (mkCallCond v cc) s = .next t ∧ FlagsSpPcKept s t ∧ Frame [] [] 12 s t)) ∧
  (∀ y : Fin 8, P1 (0xC7 + 8 * y.val) (mkRst y) ∧ ∀ s : State, CallsTo (mkRst y) (BitVec.ofNat 16 (8 * y.val)) 16 s)

/-- R358, R359, R362: RET, RET cc and RETI pop PC, the low byte from SP; only RETI touches IME, at once or as the pending value. -/
def Obligations.Returns : Prop :=
  (P1 0xC9 .ret ∧ ∀ s : State, ∃ t, exec .ret s = .next t ∧ t.pc = join (s.readByte (s.sp + 1)) (s.readByte s.sp) ∧ t.sp = s.sp + 2 ∧
    t.f = s.f ∧ Frame [] [] 16 s t) ∧
  (∀ cc : Cond, P1 (0xC0 + 8 * condCode cc) (mkRetCond cc) ∧ ∀ s : State,
    (condHolds s cc = true → ∃ t, exec (mkRetCond cc) s = .next t ∧ t.pc = join (s.readByte (s.sp + 1)) (s.readByte s.sp) ∧
      t.sp = s.sp + 2 ∧ t.f = s.f ∧ Frame [] [] 20 s t) ∧
    (condHolds s cc = false → ∃ t, exec (mkRetCond cc) s = .next t ∧ FlagsSpPcKept s t ∧ Frame [] [] 8 s t)) ∧
  (P1 0xD9 .reti ∧ ∀ s : State, ∃ t, exec .reti s = .next t ∧ t.pc = join (s.readByte (s.sp + 1)) (s.readByte s.sp) ∧ t.sp = s.sp + 2 ∧
    t.f = s.f ∧ (s.cfg.retiImmediate = true → t.ime = true ∧ t.imePending = s.imePending) ∧
    (s.cfg.retiImmediate = false → t.ime = s.ime ∧ t.imePending = some true) ∧
    t.mode = s.mode ∧ t.haltBug = s.haltBug ∧ t.fault = s.fault ∧ RegsKept [] s t ∧ HostKept s t ∧ Stores s t [] ∧ t.out = some (.ok 16))

/-! ## The special group -/

/-- R390, R392, R393, R394: NOP, CPL, SCF and CCF. -/
def Obligations.NopAndFlagGroup : Prop :=
  (P1 0x00 .nop ∧ ∀ s : State, ∃ t, exec .nop s = .next t ∧ FlagsSpPcKept s t ∧ Frame [] [] 4 s t) ∧
  (P1 0x2F .cpl ∧ ∀ s : State, ∃ t, exec .cpl s = .next t ∧ t.a.toNat = 255 - s.a.toNat ∧ Flags t s.zf true true s.cf ∧ t.sp = s.sp ∧
    t.pc = s.pc ∧ Frame [.a] [] 4 s t) ∧
  (P1 0x37 .scf ∧ ∀ s : State, ∃ t, exec .scf s = .next t ∧ Flags t s.zf false false true ∧ t.sp = s.sp ∧ t.pc = s.pc ∧ Frame [] [] 4 s t) ∧
  (P1 0x3F .ccf ∧ ∀ s : State, ∃ t, exec .ccf s = .next t ∧ Flags t s.zf false false (!s.cf) ∧ t.sp = s.sp ∧ t.pc = s.pc ∧ Frame [] [] 4 s t)

/-- R391: DAA, for every A, N, H and C; both adjustments are decided on the old A. -/
def Obligations.DecimalAdjust : Prop :=
  P1 0x27 .daa ∧ ∀ s : State, ∃ t, exec .daa s = .next t ∧
    (let high : Bool := s.cf || (!s.nf && decide (s.a.toNat > 0x99))
     let low : Bool := s.hf || (!s.nf && decide (s.a.toNat % 16 > 0x09))
     let amount : Nat := (if high then 0x60 else 0) + (if low then 0x06 else 0)
     t.a.toNat = (if s.nf then s.a.toNat + 256 - amount else s.a.toNat + amount) % 256 ∧ Flags t (t.a == 0) s.nf false high) ∧
    t.sp = s.sp ∧ t.pc = s.pc ∧ Frame [.a] [] 4 s t

/-- R396, R397: EI and DI write the pending value; DI writes IME at once under `DI_IMMEDIATE`. -/
def Obligations.EnableAndDisable : Prop :=
  (P1 0xFB .ei ∧ ∀ s : State, exec .ei s = .next { s with imePending := some true, out := some (.ok 4) }) ∧
  (P1 0xF3 .di ∧ ∀ s : State,
    (s.cfg.diImmediate = true → exec .di s = .next { s with ime := false, out := some (.ok 4) }) ∧
    (s.cfg.diImmediate = false → exec .di s = .next { s with imePending := some false, out := some (.ok 4) }))

/-- R398, R399: HALT enters Halted, or sets the halt bug when IME is 0, an enabled interrupt is requested and `HALT_BUG` is on; STOP,
whatever its second byte, enters Stopped. Nothing else changes. -/
def Obligations.HaltAndStop : Prop :=
  (P1 0x76 .halt ∧ ∀ s : State,
    (s.ime = false ∧ request s ≠ 0 ∧ s.cfg.haltBug = true → exec .halt s = .next { s with haltBug := true, out := some (.ok 4) }) ∧
    (¬ (s.ime = false ∧ request s ≠ 0 ∧ s.cfg.haltBug = true) → exec .halt s = .next { s with mode := .halted, out := some (.ok 4) })) ∧
  (P2 0x10 .stop ∧ ∀ (n : Byte) (s : State), exec (.stop n) s = .next { s with mode := .stopped, out := some (.ok 4) })
end

