-- ==== Sys2Proof/Laws/Decode.lean ====
section
/-! SUPPORT. The laws of the decoder's fields and of the lengths of the forms. -/

namespace Sys2Proof

/-- A claim about every byte holds when it holds of the 256 numerals. -/
theorem Byte.forall_iff {P : Byte → Prop} : (∀ v, P v) ↔ ∀ n : Fin 256, P (BitVec.ofFin n) :=
  ⟨fun h _ => h _, fun h v => h v.toFin⟩

/-- A claim about every byte, split by its two hexadecimal digits: the case analysis for claims with free operand bytes. -/
theorem Byte.of_digits {P : Byte → Prop} (h : ∀ hi, hi < 16 → ∀ lo, lo < 16 → P (BitVec.ofNat 8 (16 * hi + lo))) (v : Byte) : P v := by
  have hv := v.isLt
  have h' := h (v.toNat / 16) (by omega) (v.toNat % 16) (by omega)
  rwa [show 16 * (v.toNat / 16) + v.toNat % 16 = v.toNat by omega, BitVec.ofNat_toNat, BitVec.setWidth_eq] at h'

theorem fieldX_lt (op : Byte) : fieldX op < 4 := by have := op.isLt; unfold fieldX; omega
theorem fieldY_lt (op : Byte) : fieldY op < 8 := by unfold fieldY; omega
theorem fieldZ_lt (op : Byte) : fieldZ op < 8 := by unfold fieldZ; omega

/-- A byte is its three fields. -/
theorem fields_eq (op : Byte) : op.toNat = fieldX op * 64 + fieldY op * 8 + fieldZ op := by
  unfold fieldX fieldY fieldZ; omega

/-- Two bytes with the same three fields are the same byte. -/
theorem eq_of_fields {op op' : Byte} (hx : fieldX op = fieldX op') (hy : fieldY op = fieldY op') (hz : fieldZ op = fieldZ op') : op = op' :=
  BitVec.eq_of_toNat_eq (by rw [fields_eq op, fields_eq op', hx, hy, hz])

end Sys2Proof
end

