-- ==== Sys2Proof/Laws/Memory.lean ====
section
/-! SUPPORT. The laws of the memory list: reading after a write, the canonical form, and the keys it holds. -/

namespace Sys2Proof.Machine

namespace Memory

theorem risingFrom_mono {m : Memory} {lo lo' : Nat} (h : risingFrom lo m = true) (hle : lo' ≤ lo) : risingFrom lo' m = true := by
  cases m with
  | nil => rfl
  | cons cell m =>
    simp only [risingFrom, Bool.and_eq_true, decide_eq_true_eq] at h ⊢
    exact ⟨⟨Nat.le_trans hle h.1.1, h.1.2⟩, h.2⟩

/-- A key below all listed keys reads as unlisted. -/
theorem read_of_lt {m : Memory} {lo key : Nat} (h : risingFrom lo m = true) (hlt : key < lo) : m.read key = unlistedByte := by
  induction m generalizing lo with
  | nil => rfl
  | cons cell m ih =>
    simp only [risingFrom, Bool.and_eq_true, decide_eq_true_eq] at h
    rw [read, if_neg (by omega)]
    exact ih h.2 (by omega)

/-- A write leaves every other key alone. -/
theorem read_write_ne (m : Memory) (v : Byte) {key key' : Nat} (h : key' ≠ key) : (m.write key v).read key' = m.read key' := by
  induction m with
  | nil => unfold write; split <;> simp [read, h]
  | cons cell m ih =>
    obtain ⟨k, w⟩ := cell
    unfold write
    split
    · split <;> simp [read, h]
    · split
      · subst_vars; split <;> simp [read, h]
      · simp [read, ih]

/-- A read after a write to the same key gives the value written. -/
theorem read_write_eq {m : Memory} {lo : Nat} (h : risingFrom lo m = true) (key : Nat) (v : Byte) : (m.write key v).read key = v := by
  induction m generalizing lo with
  | nil => unfold write; split <;> simp_all [read]
  | cons cell m ih =>
    obtain ⟨k, w⟩ := cell
    simp only [risingFrom, Bool.and_eq_true, decide_eq_true_eq] at h
    unfold write
    split
    · split
      · subst_vars; rw [read, if_neg (by omega)]; exact read_of_lt h.2 (by omega)
      · simp [read]
    · split
      · subst_vars
        split
        · subst_vars; exact read_of_lt h.2 (by omega)
        · simp [read]
      · rw [read, if_neg (by assumption)]; exact ih h.2

theorem risingFrom_write {m : Memory} {lo : Nat} (h : risingFrom lo m = true) {key : Nat} (hk : lo ≤ key) (v : Byte) :
    risingFrom lo (m.write key v) = true := by
  induction m generalizing lo with
  | nil => unfold write; split <;> simp_all [risingFrom]
  | cons cell m ih =>
    obtain ⟨k, w⟩ := cell
    have h' := h
    simp only [risingFrom, Bool.and_eq_true, decide_eq_true_eq] at h'
    unfold write
    split
    · split
      · exact h
      · simp only [risingFrom, Bool.and_eq_true, decide_eq_true_eq, bne_iff_ne]
        exact ⟨⟨hk, by assumption⟩, ⟨by omega, by simpa using h'.1.2⟩, h'.2⟩
    · split
      · split
        · exact risingFrom_mono h'.2 (by omega)
        · simp only [risingFrom, Bool.and_eq_true, decide_eq_true_eq, bne_iff_ne]
          exact ⟨⟨hk, by assumption⟩, by subst_vars; exact h'.2⟩
      · simp only [risingFrom, Bool.and_eq_true, decide_eq_true_eq]
        exact ⟨h'.1, ih h'.2 (by omega)⟩

/-- Every write keeps the canonical form. -/
theorem wf_write {m : Memory} (h : m.wf = true) (key : Nat) (v : Byte) : (m.write key v).wf = true :=
  risingFrom_write h (Nat.zero_le key) v

theorem keysIn_write {p : Nat → Bool} {m : Memory} (h : m.keysIn p = true) {key : Nat} (hk : p key = true) (v : Byte) :
    (m.write key v).keysIn p = true := by
  have hcons : ∀ (cell : Host.Cell) (m : Memory), keysIn p (cell :: m) = (p cell.1 && keysIn p m) := fun _ _ => rfl
  induction m with
  | nil => unfold write; split <;> simp [hk, keysIn]
  | cons cell m ih =>
    obtain ⟨k, w⟩ := cell
    simp only [hcons, Bool.and_eq_true] at h
    unfold write
    split
    · split <;> simp [hcons, h, hk]
    · split
      · split <;> simp [hcons, h, hk]
      · simp [hcons, h.1, ih h.2]

theorem keysIn_imp {p q : Nat → Bool} {m : Memory} (h : m.keysIn p = true) (hpq : ∀ k, p k = true → q k = true) :
    m.keysIn q = true := by
  simp only [keysIn, List.all_eq_true] at h ⊢
  exact fun cell hc => hpq _ (h cell hc)

/-! ## Images -/

theorem risingFrom_ofBytes (base : Nat) (bytes : List Byte) : risingFrom base (ofBytes base bytes) = true := by
  induction bytes generalizing base with
  | nil => rfl
  | cons v vs ih =>
    unfold ofBytes
    split
    · exact risingFrom_mono (ih (base + 1)) (by omega)
    · simp_all [risingFrom]

theorem keysIn_ofBytes (base : Nat) (bytes : List Byte) :
    (ofBytes base bytes).keysIn (fun k => k < base + bytes.length) = true := by
  induction bytes generalizing base with
  | nil => rfl
  | cons v vs ih =>
    have h := keysIn_imp (ih (base + 1)) (q := fun k => k < base + (v :: vs).length)
      (fun k hk => by simp only [decide_eq_true_eq, List.length_cons] at hk ⊢; omega)
    unfold ofBytes
    split
    · exact h
    · simp only [keysIn, List.all_cons, Bool.and_eq_true, decide_eq_true_eq, List.length_cons] at h ⊢
      exact ⟨by omega, h⟩

theorem risingFrom_dropBelow {m : Memory} {lo : Nat} (h : risingFrom lo m = true) (bound : Nat) :
    risingFrom bound (dropBelow bound m) = true := by
  induction m generalizing lo with
  | nil => rfl
  | cons cell m ih =>
    obtain ⟨k, w⟩ := cell
    simp only [risingFrom, Bool.and_eq_true, decide_eq_true_eq] at h
    rw [dropBelow, List.filter_cons]
    split
    next hk =>
      simp only [risingFrom, Bool.and_eq_true, decide_eq_true_eq]
      refine ⟨⟨by simpa using hk, h.1.2⟩, ?_⟩
      have : m.filter (fun cell : Host.Cell => decide (bound ≤ cell.1)) = m := by
        have hm : ∀ (m : Memory) (lo : Nat), bound ≤ lo → risingFrom lo m = true → m.filter (fun cell => decide (bound ≤ cell.1)) = m := by
          intro m
          induction m with
          | nil => intros; rfl
          | cons cell m ih =>
            intro lo hlo hm
            simp only [risingFrom, Bool.and_eq_true, decide_eq_true_eq] at hm
            rw [List.filter_cons, if_pos (by simp; omega), ih (cell.1 + 1) (by omega) hm.2]
        exact hm m (k + 1) (by simp at hk; omega) h.2
      rw [this]; exact h.2
    next => exact ih h.2

theorem keysIn_dropBelow {p : Nat → Bool} {m : Memory} (h : m.keysIn p = true) (bound : Nat) : (dropBelow bound m).keysIn p = true := by
  simp only [keysIn, List.all_eq_true, dropBelow, List.mem_filter] at h ⊢
  exact fun cell hc => h cell hc.1

theorem risingFrom_append {m m' : Memory} {lo mid : Nat} (h : risingFrom lo m = true) (hk : m.keysIn (fun k => k < mid) = true)
    (h' : risingFrom mid m' = true) (hle : lo ≤ mid) : risingFrom lo (m ++ m') = true := by
  induction m generalizing lo with
  | nil => exact risingFrom_mono h' hle
  | cons cell m ih =>
    simp only [risingFrom, Bool.and_eq_true, decide_eq_true_eq, List.cons_append, keysIn, List.all_cons] at h hk ⊢
    exact ⟨h.1, ih h.2 hk.2 (by omega)⟩

theorem keysIn_append {p : Nat → Bool} {m m' : Memory} (h : m.keysIn p = true) (h' : m'.keysIn p = true) :
    Memory.keysIn p (m ++ m') = true := by
  unfold keysIn at *; rw [List.all_append, h, h']; rfl

/-! ## Boot contents -/

theorem wf_applyIoBoot {m : Memory} (h : m.wf = true) (boot : List (Word × Byte)) : (m.applyIoBoot boot).wf = true := by
  induction boot generalizing m with
  | nil => exact h
  | cons entry boot ih =>
    simp only [applyIoBoot, List.foldl_cons]
    split
    · exact ih (wf_write h _ _)
    · exact ih h

theorem fixedKey_ioBootAddr {a : Word} (h : ioBootAddr a = true) : fixedKey a.toNat = true := by
  simp [ioBootAddr, inIoTable, fixedKey, ramKey] at *; omega

theorem keysIn_applyIoBoot {m : Memory} (h : m.keysIn fixedKey = true) (boot : List (Word × Byte)) :
    (m.applyIoBoot boot).keysIn fixedKey = true := by
  induction boot generalizing m with
  | nil => exact h
  | cons entry boot ih =>
    simp only [applyIoBoot, List.foldl_cons]
    split
    next hk => exact ih (keysIn_write h (fixedKey_ioBootAddr hk) _)
    · exact ih h

theorem read_applyIoBoot_other (m : Memory) {key : Nat} (boot : List (Word × Byte))
    (h : ∀ entry ∈ boot, ioBootAddr entry.1 = true → entry.1.toNat ≠ key) : (m.applyIoBoot boot).read key = m.read key := by
  induction boot generalizing m with
  | nil => rfl
  | cons entry boot ih =>
    have hr := fun entry he => h entry (List.mem_cons_of_mem _ he)
    simp only [applyIoBoot, List.foldl_cons]
    split
    next hk => exact (ih _ hr).trans (read_write_ne _ _ (Ne.symm (h entry List.mem_cons_self hk)))
    · exact ih _ hr

theorem ofCells_ok (p : Nat → Bool) (cells : List Host.Cell) : (ofCells p cells).wf = true ∧ (ofCells p cells).keysIn p = true := by
  suffices h : ∀ m : Memory, m.wf = true ∧ m.keysIn p = true →
      (cells.foldl (fun m cell => if p cell.1 then m.write cell.1 cell.2 else m) m).wf = true ∧
      keysIn p (cells.foldl (fun m cell => if p cell.1 then m.write cell.1 cell.2 else m) m) = true from h [] ⟨rfl, rfl⟩
  induction cells with
  | nil => exact fun m h => h
  | cons cell cells ih =>
    intro m h
    simp only [List.foldl_cons]
    split
    next hk => exact ih _ ⟨wf_write h.1 _ _, keysIn_write h.2 hk _⟩
    · exact ih _ h

/-! ## Reading images -/

theorem read_of_keysIn {m : Memory} {p : Nat → Bool} (h : m.keysIn p = true) {key : Nat} (hk : p key = false) : m.read key = unlistedByte := by
  induction m with
  | nil => rfl
  | cons cell m ih =>
    simp only [keysIn, List.all_cons, Bool.and_eq_true] at h
    unfold read
    rw [if_neg (by rintro rfl; rw [h.1] at hk; cases hk)]
    exact ih h.2

theorem read_append_left {m m' : Memory} {p : Nat → Bool} (h : m'.keysIn p = true) {key : Nat} (hk : p key = false) :
    read (m ++ m') key = m.read key := by
  induction m with
  | nil => exact read_of_keysIn h hk
  | cons cell m ih => rw [List.cons_append]; simp only [read, ih]

theorem read_ofBytes (base : Nat) (bytes : List Byte) (off : Nat) (h : off < bytes.length) :
    (ofBytes base bytes).read (base + off) = bytes[off] := by
  induction bytes generalizing base off with
  | nil => cases h
  | cons v vs ih =>
    unfold ofBytes
    cases off with
    | zero =>
      split
      next hv => rw [read_of_lt (risingFrom_ofBytes (base + 1) vs) (by omega)]; exact hv.symm
      · simp [read]
    | succ n =>
      have := ih (base + 1) n (by simpa using h)
      rw [show base + 1 + n = base + (n + 1) by omega] at this
      split
      · simpa using this
      · simp only [read]; rw [if_neg (by omega)]; simpa using this

end Memory

end Sys2Proof.Machine
end

