-- ==== Sys2Proof/Laws/State.lean ====
section
/-! SUPPORT. One lemma per field and named update of `State`, so that no proof unfolds a record update. -/

namespace Sys2Proof.Machine

/-! ## The end of a step -/

@[simp] theorem State.withCycles_out (s : State) (n : Nat) : (s.withCycles n).out = some (.ok n) := rfl
@[simp] theorem State.withCycles_a (s : State) (n : Nat) : (s.withCycles n).a = s.a := rfl
@[simp] theorem State.withCycles_f (s : State) (n : Nat) : (s.withCycles n).f = s.f := rfl
@[simp] theorem State.withCycles_b (s : State) (n : Nat) : (s.withCycles n).b = s.b := rfl
@[simp] theorem State.withCycles_c (s : State) (n : Nat) : (s.withCycles n).c = s.c := rfl
@[simp] theorem State.withCycles_d (s : State) (n : Nat) : (s.withCycles n).d = s.d := rfl
@[simp] theorem State.withCycles_e (s : State) (n : Nat) : (s.withCycles n).e = s.e := rfl
@[simp] theorem State.withCycles_h (s : State) (n : Nat) : (s.withCycles n).h = s.h := rfl
@[simp] theorem State.withCycles_l (s : State) (n : Nat) : (s.withCycles n).l = s.l := rfl
@[simp] theorem State.withCycles_sp (s : State) (n : Nat) : (s.withCycles n).sp = s.sp := rfl
@[simp] theorem State.withCycles_pc (s : State) (n : Nat) : (s.withCycles n).pc = s.pc := rfl
@[simp] theorem State.withCycles_ime (s : State) (n : Nat) : (s.withCycles n).ime = s.ime := rfl
@[simp] theorem State.withCycles_imePending (s : State) (n : Nat) : (s.withCycles n).imePending = s.imePending := rfl
@[simp] theorem State.withCycles_mode (s : State) (n : Nat) : (s.withCycles n).mode = s.mode := rfl
@[simp] theorem State.withCycles_haltBug (s : State) (n : Nat) : (s.withCycles n).haltBug = s.haltBug := rfl
@[simp] theorem State.withCycles_fault (s : State) (n : Nat) : (s.withCycles n).fault = s.fault := rfl
@[simp] theorem State.withCycles_mem (s : State) (n : Nat) : (s.withCycles n).mem = s.mem := rfl
@[simp] theorem State.withCycles_rom1 (s : State) (n : Nat) : (s.withCycles n).rom1 = s.rom1 := rfl
@[simp] theorem State.withCycles_eram (s : State) (n : Nat) : (s.withCycles n).eram = s.eram := rfl
@[simp] theorem State.withCycles_wram1 (s : State) (n : Nat) : (s.withCycles n).wram1 = s.wram1 := rfl
@[simp] theorem State.withCycles_eramPersistent (s : State) (n : Nat) : (s.withCycles n).eramPersistent = s.eramPersistent := rfl
@[simp] theorem State.withCycles_eramDirty (s : State) (n : Nat) : (s.withCycles n).eramDirty = s.eramDirty := rfl
@[simp] theorem State.withCycles_loader (s : State) (n : Nat) : (s.withCycles n).loader = s.loader := rfl
@[simp] theorem State.withCycles_cfg (s : State) (n : Nat) : (s.withCycles n).cfg = s.cfg := rfl

/-! ## The stack pointer after a pop -/

@[simp] theorem State.popSp_sp (s : State) : s.popSp.sp = s.sp + 2 := rfl
@[simp] theorem State.popSp_a (s : State) : (s.popSp).a = s.a := rfl
@[simp] theorem State.popSp_f (s : State) : (s.popSp).f = s.f := rfl
@[simp] theorem State.popSp_b (s : State) : (s.popSp).b = s.b := rfl
@[simp] theorem State.popSp_c (s : State) : (s.popSp).c = s.c := rfl
@[simp] theorem State.popSp_d (s : State) : (s.popSp).d = s.d := rfl
@[simp] theorem State.popSp_e (s : State) : (s.popSp).e = s.e := rfl
@[simp] theorem State.popSp_h (s : State) : (s.popSp).h = s.h := rfl
@[simp] theorem State.popSp_l (s : State) : (s.popSp).l = s.l := rfl
@[simp] theorem State.popSp_pc (s : State) : (s.popSp).pc = s.pc := rfl
@[simp] theorem State.popSp_ime (s : State) : (s.popSp).ime = s.ime := rfl
@[simp] theorem State.popSp_imePending (s : State) : (s.popSp).imePending = s.imePending := rfl
@[simp] theorem State.popSp_mode (s : State) : (s.popSp).mode = s.mode := rfl
@[simp] theorem State.popSp_haltBug (s : State) : (s.popSp).haltBug = s.haltBug := rfl
@[simp] theorem State.popSp_fault (s : State) : (s.popSp).fault = s.fault := rfl
@[simp] theorem State.popSp_mem (s : State) : (s.popSp).mem = s.mem := rfl
@[simp] theorem State.popSp_rom1 (s : State) : (s.popSp).rom1 = s.rom1 := rfl
@[simp] theorem State.popSp_eram (s : State) : (s.popSp).eram = s.eram := rfl
@[simp] theorem State.popSp_wram1 (s : State) : (s.popSp).wram1 = s.wram1 := rfl
@[simp] theorem State.popSp_eramPersistent (s : State) : (s.popSp).eramPersistent = s.eramPersistent := rfl
@[simp] theorem State.popSp_eramDirty (s : State) : (s.popSp).eramDirty = s.eramDirty := rfl
@[simp] theorem State.popSp_loader (s : State) : (s.popSp).loader = s.loader := rfl
@[simp] theorem State.popSp_cfg (s : State) : (s.popSp).cfg = s.cfg := rfl
@[simp] theorem State.popSp_out (s : State) : (s.popSp).out = s.out := rfl

/-! ## The illegal opcode -/

@[simp] theorem State.raiseIllegal_fault (s : State) (op : Byte) : (s.raiseIllegal op).fault = some ⟨op, s.pc⟩ := rfl
@[simp] theorem State.raiseIllegal_out (s : State) (op : Byte) : (s.raiseIllegal op).out = some (.err ⟨op, s.pc⟩) := rfl
@[simp] theorem State.raiseIllegal_a (s : State) (op : Byte) : (s.raiseIllegal op).a = s.a := rfl
@[simp] theorem State.raiseIllegal_f (s : State) (op : Byte) : (s.raiseIllegal op).f = s.f := rfl
@[simp] theorem State.raiseIllegal_b (s : State) (op : Byte) : (s.raiseIllegal op).b = s.b := rfl
@[simp] theorem State.raiseIllegal_c (s : State) (op : Byte) : (s.raiseIllegal op).c = s.c := rfl
@[simp] theorem State.raiseIllegal_d (s : State) (op : Byte) : (s.raiseIllegal op).d = s.d := rfl
@[simp] theorem State.raiseIllegal_e (s : State) (op : Byte) : (s.raiseIllegal op).e = s.e := rfl
@[simp] theorem State.raiseIllegal_h (s : State) (op : Byte) : (s.raiseIllegal op).h = s.h := rfl
@[simp] theorem State.raiseIllegal_l (s : State) (op : Byte) : (s.raiseIllegal op).l = s.l := rfl
@[simp] theorem State.raiseIllegal_sp (s : State) (op : Byte) : (s.raiseIllegal op).sp = s.sp := rfl
@[simp] theorem State.raiseIllegal_pc (s : State) (op : Byte) : (s.raiseIllegal op).pc = s.pc := rfl
@[simp] theorem State.raiseIllegal_ime (s : State) (op : Byte) : (s.raiseIllegal op).ime = s.ime := rfl
@[simp] theorem State.raiseIllegal_imePending (s : State) (op : Byte) : (s.raiseIllegal op).imePending = s.imePending := rfl
@[simp] theorem State.raiseIllegal_mode (s : State) (op : Byte) : (s.raiseIllegal op).mode = s.mode := rfl
@[simp] theorem State.raiseIllegal_haltBug (s : State) (op : Byte) : (s.raiseIllegal op).haltBug = s.haltBug := rfl
@[simp] theorem State.raiseIllegal_mem (s : State) (op : Byte) : (s.raiseIllegal op).mem = s.mem := rfl
@[simp] theorem State.raiseIllegal_rom1 (s : State) (op : Byte) : (s.raiseIllegal op).rom1 = s.rom1 := rfl
@[simp] theorem State.raiseIllegal_eram (s : State) (op : Byte) : (s.raiseIllegal op).eram = s.eram := rfl
@[simp] theorem State.raiseIllegal_wram1 (s : State) (op : Byte) : (s.raiseIllegal op).wram1 = s.wram1 := rfl
@[simp] theorem State.raiseIllegal_eramPersistent (s : State) (op : Byte) : (s.raiseIllegal op).eramPersistent = s.eramPersistent := rfl
@[simp] theorem State.raiseIllegal_eramDirty (s : State) (op : Byte) : (s.raiseIllegal op).eramDirty = s.eramDirty := rfl
@[simp] theorem State.raiseIllegal_loader (s : State) (op : Byte) : (s.raiseIllegal op).loader = s.loader := rfl
@[simp] theorem State.raiseIllegal_cfg (s : State) (op : Byte) : (s.raiseIllegal op).cfg = s.cfg := rfl

/-! ## Flags -/

@[simp] theorem State.setFlags_f (s : State) (z n h c : Bool) : (s.setFlags z n h c).f = packFlags z n h c := rfl
@[simp] theorem State.setFlags_a (s : State) (z n h c : Bool) : (s.setFlags z n h c).a = s.a := rfl
@[simp] theorem State.setFlags_b (s : State) (z n h c : Bool) : (s.setFlags z n h c).b = s.b := rfl
@[simp] theorem State.setFlags_c (s : State) (z n h c : Bool) : (s.setFlags z n h c).c = s.c := rfl
@[simp] theorem State.setFlags_d (s : State) (z n h c : Bool) : (s.setFlags z n h c).d = s.d := rfl
@[simp] theorem State.setFlags_e (s : State) (z n h c : Bool) : (s.setFlags z n h c).e = s.e := rfl
@[simp] theorem State.setFlags_h (s : State) (z n h c : Bool) : (s.setFlags z n h c).h = s.h := rfl
@[simp] theorem State.setFlags_l (s : State) (z n h c : Bool) : (s.setFlags z n h c).l = s.l := rfl
@[simp] theorem State.setFlags_sp (s : State) (z n h c : Bool) : (s.setFlags z n h c).sp = s.sp := rfl
@[simp] theorem State.setFlags_pc (s : State) (z n h c : Bool) : (s.setFlags z n h c).pc = s.pc := rfl
@[simp] theorem State.setFlags_ime (s : State) (z n h c : Bool) : (s.setFlags z n h c).ime = s.ime := rfl
@[simp] theorem State.setFlags_imePending (s : State) (z n h c : Bool) : (s.setFlags z n h c).imePending = s.imePending := rfl
@[simp] theorem State.setFlags_mode (s : State) (z n h c : Bool) : (s.setFlags z n h c).mode = s.mode := rfl
@[simp] theorem State.setFlags_haltBug (s : State) (z n h c : Bool) : (s.setFlags z n h c).haltBug = s.haltBug := rfl
@[simp] theorem State.setFlags_fault (s : State) (z n h c : Bool) : (s.setFlags z n h c).fault = s.fault := rfl
@[simp] theorem State.setFlags_mem (s : State) (z n h c : Bool) : (s.setFlags z n h c).mem = s.mem := rfl
@[simp] theorem State.setFlags_rom1 (s : State) (z n h c : Bool) : (s.setFlags z n h c).rom1 = s.rom1 := rfl
@[simp] theorem State.setFlags_eram (s : State) (z n h c : Bool) : (s.setFlags z n h c).eram = s.eram := rfl
@[simp] theorem State.setFlags_wram1 (s : State) (z n h c : Bool) : (s.setFlags z n h c).wram1 = s.wram1 := rfl
@[simp] theorem State.setFlags_eramPersistent (s : State) (z n h c : Bool) : (s.setFlags z n h c).eramPersistent = s.eramPersistent := rfl
@[simp] theorem State.setFlags_eramDirty (s : State) (z n h c : Bool) : (s.setFlags z n h c).eramDirty = s.eramDirty := rfl
@[simp] theorem State.setFlags_loader (s : State) (z n h c : Bool) : (s.setFlags z n h c).loader = s.loader := rfl
@[simp] theorem State.setFlags_cfg (s : State) (z n h c : Bool) : (s.setFlags z n h c).cfg = s.cfg := rfl
@[simp] theorem State.setFlags_out (s : State) (z n h c : Bool) : (s.setFlags z n h c).out = s.out := rfl

@[simp] theorem State.setF_f (s : State) (v : Byte) : (s.setF v).f = v &&& 0xF0 := rfl
@[simp] theorem State.setF_a (s : State) (v : Byte) : (s.setF v).a = s.a := rfl
@[simp] theorem State.setF_b (s : State) (v : Byte) : (s.setF v).b = s.b := rfl
@[simp] theorem State.setF_c (s : State) (v : Byte) : (s.setF v).c = s.c := rfl
@[simp] theorem State.setF_d (s : State) (v : Byte) : (s.setF v).d = s.d := rfl
@[simp] theorem State.setF_e (s : State) (v : Byte) : (s.setF v).e = s.e := rfl
@[simp] theorem State.setF_h (s : State) (v : Byte) : (s.setF v).h = s.h := rfl
@[simp] theorem State.setF_l (s : State) (v : Byte) : (s.setF v).l = s.l := rfl
@[simp] theorem State.setF_sp (s : State) (v : Byte) : (s.setF v).sp = s.sp := rfl
@[simp] theorem State.setF_pc (s : State) (v : Byte) : (s.setF v).pc = s.pc := rfl
@[simp] theorem State.setF_ime (s : State) (v : Byte) : (s.setF v).ime = s.ime := rfl
@[simp] theorem State.setF_imePending (s : State) (v : Byte) : (s.setF v).imePending = s.imePending := rfl
@[simp] theorem State.setF_mode (s : State) (v : Byte) : (s.setF v).mode = s.mode := rfl
@[simp] theorem State.setF_haltBug (s : State) (v : Byte) : (s.setF v).haltBug = s.haltBug := rfl
@[simp] theorem State.setF_fault (s : State) (v : Byte) : (s.setF v).fault = s.fault := rfl
@[simp] theorem State.setF_mem (s : State) (v : Byte) : (s.setF v).mem = s.mem := rfl
@[simp] theorem State.setF_rom1 (s : State) (v : Byte) : (s.setF v).rom1 = s.rom1 := rfl
@[simp] theorem State.setF_eram (s : State) (v : Byte) : (s.setF v).eram = s.eram := rfl
@[simp] theorem State.setF_wram1 (s : State) (v : Byte) : (s.setF v).wram1 = s.wram1 := rfl
@[simp] theorem State.setF_eramPersistent (s : State) (v : Byte) : (s.setF v).eramPersistent = s.eramPersistent := rfl
@[simp] theorem State.setF_eramDirty (s : State) (v : Byte) : (s.setF v).eramDirty = s.eramDirty := rfl
@[simp] theorem State.setF_loader (s : State) (v : Byte) : (s.setF v).loader = s.loader := rfl
@[simp] theorem State.setF_cfg (s : State) (v : Byte) : (s.setF v).cfg = s.cfg := rfl
@[simp] theorem State.setF_out (s : State) (v : Byte) : (s.setF v).out = s.out := rfl

/-! ## Registers and pairs -/

@[simp] theorem State.setReg_f (s : State) (r : Reg8) (v : Byte) : (s.setReg r v).f = s.f := by cases r <;> rfl
@[simp] theorem State.setReg_sp (s : State) (r : Reg8) (v : Byte) : (s.setReg r v).sp = s.sp := by cases r <;> rfl
@[simp] theorem State.setReg_pc (s : State) (r : Reg8) (v : Byte) : (s.setReg r v).pc = s.pc := by cases r <;> rfl
@[simp] theorem State.setReg_ime (s : State) (r : Reg8) (v : Byte) : (s.setReg r v).ime = s.ime := by cases r <;> rfl
@[simp] theorem State.setReg_imePending (s : State) (r : Reg8) (v : Byte) : (s.setReg r v).imePending = s.imePending := by cases r <;> rfl
@[simp] theorem State.setReg_mode (s : State) (r : Reg8) (v : Byte) : (s.setReg r v).mode = s.mode := by cases r <;> rfl
@[simp] theorem State.setReg_haltBug (s : State) (r : Reg8) (v : Byte) : (s.setReg r v).haltBug = s.haltBug := by cases r <;> rfl
@[simp] theorem State.setReg_fault (s : State) (r : Reg8) (v : Byte) : (s.setReg r v).fault = s.fault := by cases r <;> rfl
@[simp] theorem State.setReg_mem (s : State) (r : Reg8) (v : Byte) : (s.setReg r v).mem = s.mem := by cases r <;> rfl
@[simp] theorem State.setReg_rom1 (s : State) (r : Reg8) (v : Byte) : (s.setReg r v).rom1 = s.rom1 := by cases r <;> rfl
@[simp] theorem State.setReg_eram (s : State) (r : Reg8) (v : Byte) : (s.setReg r v).eram = s.eram := by cases r <;> rfl
@[simp] theorem State.setReg_wram1 (s : State) (r : Reg8) (v : Byte) : (s.setReg r v).wram1 = s.wram1 := by cases r <;> rfl
@[simp] theorem State.setReg_eramPersistent (s : State) (r : Reg8) (v : Byte) : (s.setReg r v).eramPersistent = s.eramPersistent := by cases r <;> rfl
@[simp] theorem State.setReg_eramDirty (s : State) (r : Reg8) (v : Byte) : (s.setReg r v).eramDirty = s.eramDirty := by cases r <;> rfl
@[simp] theorem State.setReg_loader (s : State) (r : Reg8) (v : Byte) : (s.setReg r v).loader = s.loader := by cases r <;> rfl
@[simp] theorem State.setReg_cfg (s : State) (r : Reg8) (v : Byte) : (s.setReg r v).cfg = s.cfg := by cases r <;> rfl
@[simp] theorem State.setReg_out (s : State) (r : Reg8) (v : Byte) : (s.setReg r v).out = s.out := by cases r <;> rfl

@[simp] theorem State.setHL_h (s : State) (v : Word) : (s.setHL v).h = hiByte v := rfl
@[simp] theorem State.setHL_l (s : State) (v : Word) : (s.setHL v).l = loByte v := rfl
@[simp] theorem State.setHL_a (s : State) (v : Word) : (s.setHL v).a = s.a := rfl
@[simp] theorem State.setHL_f (s : State) (v : Word) : (s.setHL v).f = s.f := rfl
@[simp] theorem State.setHL_b (s : State) (v : Word) : (s.setHL v).b = s.b := rfl
@[simp] theorem State.setHL_c (s : State) (v : Word) : (s.setHL v).c = s.c := rfl
@[simp] theorem State.setHL_d (s : State) (v : Word) : (s.setHL v).d = s.d := rfl
@[simp] theorem State.setHL_e (s : State) (v : Word) : (s.setHL v).e = s.e := rfl
@[simp] theorem State.setHL_sp (s : State) (v : Word) : (s.setHL v).sp = s.sp := rfl
@[simp] theorem State.setHL_pc (s : State) (v : Word) : (s.setHL v).pc = s.pc := rfl
@[simp] theorem State.setHL_ime (s : State) (v : Word) : (s.setHL v).ime = s.ime := rfl
@[simp] theorem State.setHL_imePending (s : State) (v : Word) : (s.setHL v).imePending = s.imePending := rfl
@[simp] theorem State.setHL_mode (s : State) (v : Word) : (s.setHL v).mode = s.mode := rfl
@[simp] theorem State.setHL_haltBug (s : State) (v : Word) : (s.setHL v).haltBug = s.haltBug := rfl
@[simp] theorem State.setHL_fault (s : State) (v : Word) : (s.setHL v).fault = s.fault := rfl
@[simp] theorem State.setHL_mem (s : State) (v : Word) : (s.setHL v).mem = s.mem := rfl
@[simp] theorem State.setHL_rom1 (s : State) (v : Word) : (s.setHL v).rom1 = s.rom1 := rfl
@[simp] theorem State.setHL_eram (s : State) (v : Word) : (s.setHL v).eram = s.eram := rfl
@[simp] theorem State.setHL_wram1 (s : State) (v : Word) : (s.setHL v).wram1 = s.wram1 := rfl
@[simp] theorem State.setHL_eramPersistent (s : State) (v : Word) : (s.setHL v).eramPersistent = s.eramPersistent := rfl
@[simp] theorem State.setHL_eramDirty (s : State) (v : Word) : (s.setHL v).eramDirty = s.eramDirty := rfl
@[simp] theorem State.setHL_loader (s : State) (v : Word) : (s.setHL v).loader = s.loader := rfl
@[simp] theorem State.setHL_cfg (s : State) (v : Word) : (s.setHL v).cfg = s.cfg := rfl
@[simp] theorem State.setHL_out (s : State) (v : Word) : (s.setHL v).out = s.out := rfl

@[simp] theorem State.setPair_a (s : State) (p : Pair) (v : Word) : (s.setPair p v).a = s.a := by cases p <;> rfl
@[simp] theorem State.setPair_f (s : State) (p : Pair) (v : Word) : (s.setPair p v).f = s.f := by cases p <;> rfl
@[simp] theorem State.setPair_pc (s : State) (p : Pair) (v : Word) : (s.setPair p v).pc = s.pc := by cases p <;> rfl
@[simp] theorem State.setPair_ime (s : State) (p : Pair) (v : Word) : (s.setPair p v).ime = s.ime := by cases p <;> rfl
@[simp] theorem State.setPair_imePending (s : State) (p : Pair) (v : Word) : (s.setPair p v).imePending = s.imePending := by cases p <;> rfl
@[simp] theorem State.setPair_mode (s : State) (p : Pair) (v : Word) : (s.setPair p v).mode = s.mode := by cases p <;> rfl
@[simp] theorem State.setPair_haltBug (s : State) (p : Pair) (v : Word) : (s.setPair p v).haltBug = s.haltBug := by cases p <;> rfl
@[simp] theorem State.setPair_fault (s : State) (p : Pair) (v : Word) : (s.setPair p v).fault = s.fault := by cases p <;> rfl
@[simp] theorem State.setPair_mem (s : State) (p : Pair) (v : Word) : (s.setPair p v).mem = s.mem := by cases p <;> rfl
@[simp] theorem State.setPair_rom1 (s : State) (p : Pair) (v : Word) : (s.setPair p v).rom1 = s.rom1 := by cases p <;> rfl
@[simp] theorem State.setPair_eram (s : State) (p : Pair) (v : Word) : (s.setPair p v).eram = s.eram := by cases p <;> rfl
@[simp] theorem State.setPair_wram1 (s : State) (p : Pair) (v : Word) : (s.setPair p v).wram1 = s.wram1 := by cases p <;> rfl
@[simp] theorem State.setPair_eramPersistent (s : State) (p : Pair) (v : Word) : (s.setPair p v).eramPersistent = s.eramPersistent := by cases p <;> rfl
@[simp] theorem State.setPair_eramDirty (s : State) (p : Pair) (v : Word) : (s.setPair p v).eramDirty = s.eramDirty := by cases p <;> rfl
@[simp] theorem State.setPair_loader (s : State) (p : Pair) (v : Word) : (s.setPair p v).loader = s.loader := by cases p <;> rfl
@[simp] theorem State.setPair_cfg (s : State) (p : Pair) (v : Word) : (s.setPair p v).cfg = s.cfg := by cases p <;> rfl
@[simp] theorem State.setPair_out (s : State) (p : Pair) (v : Word) : (s.setPair p v).out = s.out := by cases p <;> rfl

@[simp] theorem State.setStackPair_sp (s : State) (q : StackPair) (v : Word) : (s.setStackPair q v).sp = s.sp := by cases q <;> rfl
@[simp] theorem State.setStackPair_pc (s : State) (q : StackPair) (v : Word) : (s.setStackPair q v).pc = s.pc := by cases q <;> rfl
@[simp] theorem State.setStackPair_ime (s : State) (q : StackPair) (v : Word) : (s.setStackPair q v).ime = s.ime := by cases q <;> rfl
@[simp] theorem State.setStackPair_imePending (s : State) (q : StackPair) (v : Word) : (s.setStackPair q v).imePending = s.imePending := by cases q <;> rfl
@[simp] theorem State.setStackPair_mode (s : State) (q : StackPair) (v : Word) : (s.setStackPair q v).mode = s.mode := by cases q <;> rfl
@[simp] theorem State.setStackPair_haltBug (s : State) (q : StackPair) (v : Word) : (s.setStackPair q v).haltBug = s.haltBug := by cases q <;> rfl
@[simp] theorem State.setStackPair_fault (s : State) (q : StackPair) (v : Word) : (s.setStackPair q v).fault = s.fault := by cases q <;> rfl
@[simp] theorem State.setStackPair_mem (s : State) (q : StackPair) (v : Word) : (s.setStackPair q v).mem = s.mem := by cases q <;> rfl
@[simp] theorem State.setStackPair_rom1 (s : State) (q : StackPair) (v : Word) : (s.setStackPair q v).rom1 = s.rom1 := by cases q <;> rfl
@[simp] theorem State.setStackPair_eram (s : State) (q : StackPair) (v : Word) : (s.setStackPair q v).eram = s.eram := by cases q <;> rfl
@[simp] theorem State.setStackPair_wram1 (s : State) (q : StackPair) (v : Word) : (s.setStackPair q v).wram1 = s.wram1 := by cases q <;> rfl
@[simp] theorem State.setStackPair_eramPersistent (s : State) (q : StackPair) (v : Word) : (s.setStackPair q v).eramPersistent = s.eramPersistent := by cases q <;> rfl
@[simp] theorem State.setStackPair_eramDirty (s : State) (q : StackPair) (v : Word) : (s.setStackPair q v).eramDirty = s.eramDirty := by cases q <;> rfl
@[simp] theorem State.setStackPair_loader (s : State) (q : StackPair) (v : Word) : (s.setStackPair q v).loader = s.loader := by cases q <;> rfl
@[simp] theorem State.setStackPair_cfg (s : State) (q : StackPair) (v : Word) : (s.setStackPair q v).cfg = s.cfg := by cases q <;> rfl
@[simp] theorem State.setStackPair_out (s : State) (q : StackPair) (v : Word) : (s.setStackPair q v).out = s.out := by cases q <;> rfl

/-! ## Memory -/

@[simp] theorem State.storeCell_a (s : State) (r : Region) (off : Nat) (v : Byte) : (s.storeCell r off v).a = s.a := by cases r <;> rfl
@[simp] theorem State.storeCell_f (s : State) (r : Region) (off : Nat) (v : Byte) : (s.storeCell r off v).f = s.f := by cases r <;> rfl
@[simp] theorem State.storeCell_b (s : State) (r : Region) (off : Nat) (v : Byte) : (s.storeCell r off v).b = s.b := by cases r <;> rfl
@[simp] theorem State.storeCell_c (s : State) (r : Region) (off : Nat) (v : Byte) : (s.storeCell r off v).c = s.c := by cases r <;> rfl
@[simp] theorem State.storeCell_d (s : State) (r : Region) (off : Nat) (v : Byte) : (s.storeCell r off v).d = s.d := by cases r <;> rfl
@[simp] theorem State.storeCell_e (s : State) (r : Region) (off : Nat) (v : Byte) : (s.storeCell r off v).e = s.e := by cases r <;> rfl
@[simp] theorem State.storeCell_h (s : State) (r : Region) (off : Nat) (v : Byte) : (s.storeCell r off v).h = s.h := by cases r <;> rfl
@[simp] theorem State.storeCell_l (s : State) (r : Region) (off : Nat) (v : Byte) : (s.storeCell r off v).l = s.l := by cases r <;> rfl
@[simp] theorem State.storeCell_sp (s : State) (r : Region) (off : Nat) (v : Byte) : (s.storeCell r off v).sp = s.sp := by cases r <;> rfl
@[simp] theorem State.storeCell_pc (s : State) (r : Region) (off : Nat) (v : Byte) : (s.storeCell r off v).pc = s.pc := by cases r <;> rfl
@[simp] theorem State.storeCell_ime (s : State) (r : Region) (off : Nat) (v : Byte) : (s.storeCell r off v).ime = s.ime := by cases r <;> rfl
@[simp] theorem State.storeCell_imePending (s : State) (r : Region) (off : Nat) (v : Byte) : (s.storeCell r off v).imePending = s.imePending := by cases r <;> rfl
@[simp] theorem State.storeCell_mode (s : State) (r : Region) (off : Nat) (v : Byte) : (s.storeCell r off v).mode = s.mode := by cases r <;> rfl
@[simp] theorem State.storeCell_haltBug (s : State) (r : Region) (off : Nat) (v : Byte) : (s.storeCell r off v).haltBug = s.haltBug := by cases r <;> rfl
@[simp] theorem State.storeCell_fault (s : State) (r : Region) (off : Nat) (v : Byte) : (s.storeCell r off v).fault = s.fault := by cases r <;> rfl
@[simp] theorem State.storeCell_eramPersistent (s : State) (r : Region) (off : Nat) (v : Byte) : (s.storeCell r off v).eramPersistent = s.eramPersistent := by cases r <;> rfl
@[simp] theorem State.storeCell_eramDirty (s : State) (r : Region) (off : Nat) (v : Byte) : (s.storeCell r off v).eramDirty = s.eramDirty := by cases r <;> rfl
@[simp] theorem State.storeCell_loader (s : State) (r : Region) (off : Nat) (v : Byte) : (s.storeCell r off v).loader = s.loader := by cases r <;> rfl
@[simp] theorem State.storeCell_cfg (s : State) (r : Region) (off : Nat) (v : Byte) : (s.storeCell r off v).cfg = s.cfg := by cases r <;> rfl
@[simp] theorem State.storeCell_out (s : State) (r : Region) (off : Nat) (v : Byte) : (s.storeCell r off v).out = s.out := by cases r <;> rfl

@[simp] theorem State.writeLoc_a (s : State) (o : Loc) (v : Byte) : (s.writeLoc o v).a = s.a := by rcases o with ⟨_ | _⟩ | _ <;> rfl
@[simp] theorem State.writeLoc_f (s : State) (o : Loc) (v : Byte) : (s.writeLoc o v).f = s.f := by rcases o with ⟨_ | _⟩ | _ <;> rfl
@[simp] theorem State.writeLoc_b (s : State) (o : Loc) (v : Byte) : (s.writeLoc o v).b = s.b := by rcases o with ⟨_ | _⟩ | _ <;> rfl
@[simp] theorem State.writeLoc_c (s : State) (o : Loc) (v : Byte) : (s.writeLoc o v).c = s.c := by rcases o with ⟨_ | _⟩ | _ <;> rfl
@[simp] theorem State.writeLoc_d (s : State) (o : Loc) (v : Byte) : (s.writeLoc o v).d = s.d := by rcases o with ⟨_ | _⟩ | _ <;> rfl
@[simp] theorem State.writeLoc_e (s : State) (o : Loc) (v : Byte) : (s.writeLoc o v).e = s.e := by rcases o with ⟨_ | _⟩ | _ <;> rfl
@[simp] theorem State.writeLoc_h (s : State) (o : Loc) (v : Byte) : (s.writeLoc o v).h = s.h := by rcases o with ⟨_ | _⟩ | _ <;> rfl
@[simp] theorem State.writeLoc_l (s : State) (o : Loc) (v : Byte) : (s.writeLoc o v).l = s.l := by rcases o with ⟨_ | _⟩ | _ <;> rfl
@[simp] theorem State.writeLoc_sp (s : State) (o : Loc) (v : Byte) : (s.writeLoc o v).sp = s.sp := by rcases o with ⟨_ | _⟩ | _ <;> rfl
@[simp] theorem State.writeLoc_pc (s : State) (o : Loc) (v : Byte) : (s.writeLoc o v).pc = s.pc := by rcases o with ⟨_ | _⟩ | _ <;> rfl
@[simp] theorem State.writeLoc_ime (s : State) (o : Loc) (v : Byte) : (s.writeLoc o v).ime = s.ime := by rcases o with ⟨_ | _⟩ | _ <;> rfl
@[simp] theorem State.writeLoc_imePending (s : State) (o : Loc) (v : Byte) : (s.writeLoc o v).imePending = s.imePending := by rcases o with ⟨_ | _⟩ | _ <;> rfl
@[simp] theorem State.writeLoc_mode (s : State) (o : Loc) (v : Byte) : (s.writeLoc o v).mode = s.mode := by rcases o with ⟨_ | _⟩ | _ <;> rfl
@[simp] theorem State.writeLoc_haltBug (s : State) (o : Loc) (v : Byte) : (s.writeLoc o v).haltBug = s.haltBug := by rcases o with ⟨_ | _⟩ | _ <;> rfl
@[simp] theorem State.writeLoc_fault (s : State) (o : Loc) (v : Byte) : (s.writeLoc o v).fault = s.fault := by rcases o with ⟨_ | _⟩ | _ <;> rfl
@[simp] theorem State.writeLoc_rom1 (s : State) (o : Loc) (v : Byte) : (s.writeLoc o v).rom1 = s.rom1 := by rcases o with ⟨_ | _⟩ | _ <;> rfl
@[simp] theorem State.writeLoc_eramPersistent (s : State) (o : Loc) (v : Byte) : (s.writeLoc o v).eramPersistent = s.eramPersistent := by rcases o with ⟨_ | _⟩ | _ <;> rfl
@[simp] theorem State.writeLoc_loader (s : State) (o : Loc) (v : Byte) : (s.writeLoc o v).loader = s.loader := by rcases o with ⟨_ | _⟩ | _ <;> rfl
@[simp] theorem State.writeLoc_cfg (s : State) (o : Loc) (v : Byte) : (s.writeLoc o v).cfg = s.cfg := by rcases o with ⟨_ | _⟩ | _ <;> rfl
@[simp] theorem State.writeLoc_out (s : State) (o : Loc) (v : Byte) : (s.writeLoc o v).out = s.out := by rcases o with ⟨_ | _⟩ | _ <;> rfl

@[simp] theorem State.writeByte_a (s : State) (addr : Word) (v : Byte) : (s.writeByte addr v).a = s.a := by simp [State.writeByte]
@[simp] theorem State.writeByte_f (s : State) (addr : Word) (v : Byte) : (s.writeByte addr v).f = s.f := by simp [State.writeByte]
@[simp] theorem State.writeByte_b (s : State) (addr : Word) (v : Byte) : (s.writeByte addr v).b = s.b := by simp [State.writeByte]
@[simp] theorem State.writeByte_c (s : State) (addr : Word) (v : Byte) : (s.writeByte addr v).c = s.c := by simp [State.writeByte]
@[simp] theorem State.writeByte_d (s : State) (addr : Word) (v : Byte) : (s.writeByte addr v).d = s.d := by simp [State.writeByte]
@[simp] theorem State.writeByte_e (s : State) (addr : Word) (v : Byte) : (s.writeByte addr v).e = s.e := by simp [State.writeByte]
@[simp] theorem State.writeByte_h (s : State) (addr : Word) (v : Byte) : (s.writeByte addr v).h = s.h := by simp [State.writeByte]
@[simp] theorem State.writeByte_l (s : State) (addr : Word) (v : Byte) : (s.writeByte addr v).l = s.l := by simp [State.writeByte]
@[simp] theorem State.writeByte_sp (s : State) (addr : Word) (v : Byte) : (s.writeByte addr v).sp = s.sp := by simp [State.writeByte]
@[simp] theorem State.writeByte_pc (s : State) (addr : Word) (v : Byte) : (s.writeByte addr v).pc = s.pc := by simp [State.writeByte]
@[simp] theorem State.writeByte_ime (s : State) (addr : Word) (v : Byte) : (s.writeByte addr v).ime = s.ime := by simp [State.writeByte]
@[simp] theorem State.writeByte_imePending (s : State) (addr : Word) (v : Byte) : (s.writeByte addr v).imePending = s.imePending := by simp [State.writeByte]
@[simp] theorem State.writeByte_mode (s : State) (addr : Word) (v : Byte) : (s.writeByte addr v).mode = s.mode := by simp [State.writeByte]
@[simp] theorem State.writeByte_haltBug (s : State) (addr : Word) (v : Byte) : (s.writeByte addr v).haltBug = s.haltBug := by simp [State.writeByte]
@[simp] theorem State.writeByte_fault (s : State) (addr : Word) (v : Byte) : (s.writeByte addr v).fault = s.fault := by simp [State.writeByte]
@[simp] theorem State.writeByte_rom1 (s : State) (addr : Word) (v : Byte) : (s.writeByte addr v).rom1 = s.rom1 := by simp [State.writeByte]
@[simp] theorem State.writeByte_eramPersistent (s : State) (addr : Word) (v : Byte) : (s.writeByte addr v).eramPersistent = s.eramPersistent := by simp [State.writeByte]
@[simp] theorem State.writeByte_loader (s : State) (addr : Word) (v : Byte) : (s.writeByte addr v).loader = s.loader := by simp [State.writeByte]
@[simp] theorem State.writeByte_cfg (s : State) (addr : Word) (v : Byte) : (s.writeByte addr v).cfg = s.cfg := by simp [State.writeByte]
@[simp] theorem State.writeByte_out (s : State) (addr : Word) (v : Byte) : (s.writeByte addr v).out = s.out := by simp [State.writeByte]

@[simp] theorem State.writeWord_a (s : State) (addr : Word) (v : Word) : (s.writeWord addr v).a = s.a := by simp [State.writeWord]
@[simp] theorem State.writeWord_f (s : State) (addr : Word) (v : Word) : (s.writeWord addr v).f = s.f := by simp [State.writeWord]
@[simp] theorem State.writeWord_b (s : State) (addr : Word) (v : Word) : (s.writeWord addr v).b = s.b := by simp [State.writeWord]
@[simp] theorem State.writeWord_c (s : State) (addr : Word) (v : Word) : (s.writeWord addr v).c = s.c := by simp [State.writeWord]
@[simp] theorem State.writeWord_d (s : State) (addr : Word) (v : Word) : (s.writeWord addr v).d = s.d := by simp [State.writeWord]
@[simp] theorem State.writeWord_e (s : State) (addr : Word) (v : Word) : (s.writeWord addr v).e = s.e := by simp [State.writeWord]
@[simp] theorem State.writeWord_h (s : State) (addr : Word) (v : Word) : (s.writeWord addr v).h = s.h := by simp [State.writeWord]
@[simp] theorem State.writeWord_l (s : State) (addr : Word) (v : Word) : (s.writeWord addr v).l = s.l := by simp [State.writeWord]
@[simp] theorem State.writeWord_sp (s : State) (addr : Word) (v : Word) : (s.writeWord addr v).sp = s.sp := by simp [State.writeWord]
@[simp] theorem State.writeWord_pc (s : State) (addr : Word) (v : Word) : (s.writeWord addr v).pc = s.pc := by simp [State.writeWord]
@[simp] theorem State.writeWord_ime (s : State) (addr : Word) (v : Word) : (s.writeWord addr v).ime = s.ime := by simp [State.writeWord]
@[simp] theorem State.writeWord_imePending (s : State) (addr : Word) (v : Word) : (s.writeWord addr v).imePending = s.imePending := by simp [State.writeWord]
@[simp] theorem State.writeWord_mode (s : State) (addr : Word) (v : Word) : (s.writeWord addr v).mode = s.mode := by simp [State.writeWord]
@[simp] theorem State.writeWord_haltBug (s : State) (addr : Word) (v : Word) : (s.writeWord addr v).haltBug = s.haltBug := by simp [State.writeWord]
@[simp] theorem State.writeWord_fault (s : State) (addr : Word) (v : Word) : (s.writeWord addr v).fault = s.fault := by simp [State.writeWord]
@[simp] theorem State.writeWord_rom1 (s : State) (addr : Word) (v : Word) : (s.writeWord addr v).rom1 = s.rom1 := by simp [State.writeWord]
@[simp] theorem State.writeWord_eramPersistent (s : State) (addr : Word) (v : Word) : (s.writeWord addr v).eramPersistent = s.eramPersistent := by simp [State.writeWord]
@[simp] theorem State.writeWord_loader (s : State) (addr : Word) (v : Word) : (s.writeWord addr v).loader = s.loader := by simp [State.writeWord]
@[simp] theorem State.writeWord_cfg (s : State) (addr : Word) (v : Word) : (s.writeWord addr v).cfg = s.cfg := by simp [State.writeWord]
@[simp] theorem State.writeWord_out (s : State) (addr : Word) (v : Word) : (s.writeWord addr v).out = s.out := by simp [State.writeWord]

@[simp] theorem State.push16_sp (s : State) (v : Word) : (s.push16 v).sp = s.sp - 2 := rfl
@[simp] theorem State.push16_a (s : State) (v : Word) : (s.push16 v).a = s.a := by simp [State.push16]
@[simp] theorem State.push16_f (s : State) (v : Word) : (s.push16 v).f = s.f := by simp [State.push16]
@[simp] theorem State.push16_b (s : State) (v : Word) : (s.push16 v).b = s.b := by simp [State.push16]
@[simp] theorem State.push16_c (s : State) (v : Word) : (s.push16 v).c = s.c := by simp [State.push16]
@[simp] theorem State.push16_d (s : State) (v : Word) : (s.push16 v).d = s.d := by simp [State.push16]
@[simp] theorem State.push16_e (s : State) (v : Word) : (s.push16 v).e = s.e := by simp [State.push16]
@[simp] theorem State.push16_h (s : State) (v : Word) : (s.push16 v).h = s.h := by simp [State.push16]
@[simp] theorem State.push16_l (s : State) (v : Word) : (s.push16 v).l = s.l := by simp [State.push16]
@[simp] theorem State.push16_pc (s : State) (v : Word) : (s.push16 v).pc = s.pc := by simp [State.push16]
@[simp] theorem State.push16_ime (s : State) (v : Word) : (s.push16 v).ime = s.ime := by simp [State.push16]
@[simp] theorem State.push16_imePending (s : State) (v : Word) : (s.push16 v).imePending = s.imePending := by simp [State.push16]
@[simp] theorem State.push16_mode (s : State) (v : Word) : (s.push16 v).mode = s.mode := by simp [State.push16]
@[simp] theorem State.push16_haltBug (s : State) (v : Word) : (s.push16 v).haltBug = s.haltBug := by simp [State.push16]
@[simp] theorem State.push16_fault (s : State) (v : Word) : (s.push16 v).fault = s.fault := by simp [State.push16]
@[simp] theorem State.push16_rom1 (s : State) (v : Word) : (s.push16 v).rom1 = s.rom1 := by simp [State.push16]
@[simp] theorem State.push16_eramPersistent (s : State) (v : Word) : (s.push16 v).eramPersistent = s.eramPersistent := by simp [State.push16]
@[simp] theorem State.push16_loader (s : State) (v : Word) : (s.push16 v).loader = s.loader := by simp [State.push16]
@[simp] theorem State.push16_cfg (s : State) (v : Word) : (s.push16 v).cfg = s.cfg := by simp [State.push16]
@[simp] theorem State.push16_out (s : State) (v : Word) : (s.push16 v).out = s.out := by simp [State.push16]

end Sys2Proof.Machine
end

