-- ==== Sys2Proof/Laws/Ops.lean ====
section
/-! SUPPORT. The laws of the address decoder and of the memory primitives: what a write changes, what it leaves alone, and
what the stack primitives do. -/

namespace Sys2Proof.Machine

/-! ## The address decoder -/

/-- Resolution reads the counts and indices of the three switchable regions and nothing else. -/
theorem State.resolve_congr {s t : State} (h1 : t.rom1.count = s.rom1.count ∧ t.rom1.index = s.rom1.index)
    (h2 : t.eram.count = s.eram.count ∧ t.eram.index = s.eram.index)
    (h3 : t.wram1.count = s.wram1.count ∧ t.wram1.index = s.wram1.index) (a : Word) : t.resolve a = s.resolve a := by
  simp [State.resolve, State.resolveRange, Banked.locate, h1, h2, h3]

theorem Banked.locate_cases (x : Banked) (r : Region) (off : Nat) :
    (x.locate r off = .cell r (x.index * r.size + off) ∧ x.index < x.count) ∨
      (x.locate r off = .illegal ∧ ¬ x.index < x.count) := by
  unfold Banked.locate
  split
  next h => exact .inl ⟨rfl, h.2⟩
  next h => exact .inr ⟨rfl, fun h' => h ⟨Nat.zero_lt_of_lt h', h'⟩⟩

/-- The range of the I/O bytes (R86). -/
theorem State.resolveRange_io (s : State) {a : Nat} (lo : 0xFF00 ≤ a) (hi : a ≤ 0xFF7F) :
    s.resolveRange a = .cell .io (a - 0xFF00) := by
  unfold State.resolveRange
  simp (disch := omega) only [if_neg, hi, if_true]

/-- What the I/O table gives is what the ranges give (R85): the table's precedence cannot be seen. -/
theorem State.ioCell_eq_resolveRange (s : State) {a : Nat} (h : inIoTable a = true) : ioCell a = s.resolveRange a := by
  simp only [inIoTable, Bool.or_eq_true, Bool.and_eq_true, decide_eq_true_eq, beq_iff_eq] at h
  obtain ⟨lo, hi⟩ | rfl := h
  · rw [s.resolveRange_io lo hi, ioCell, if_neg (by omega)]
  · rfl

/-- The decoder as one chain of ranges: the I/O table holds the same cells as the ranges. -/
theorem State.resolve_eq (s : State) (addr : Word) :
    s.resolve addr = if 0xE000 ≤ addr.toNat ∧ addr.toNat ≤ 0xFDFF then s.resolveRange (addr.toNat - 0x2000)
      else s.resolveRange addr.toNat := by
  simp only [State.resolve]
  by_cases h : inIoTable addr.toNat = true
  · rw [if_pos h, s.ioCell_eq_resolveRange h, if_neg]
    simp only [inIoTable, Bool.or_eq_true, Bool.and_eq_true, decide_eq_true_eq, beq_iff_eq] at h
    omega
  · rw [if_neg h]

/-- The address, outside the echo, through which a cell is reached. -/
def State.addrOf (s : State) : Region → Nat → Nat
  | .rom1, off => 0x4000 + (off - s.rom1.index * 0x4000)
  | .eram, off => 0xA000 + (off - s.eram.index * 0x2000)
  | .wram1, off => 0xD000 + (off - s.wram1.index * 0x1000)
  | r, off => r.base + off

/-- A cell that an address outside the echo resolves to exists, and tells the address. -/
theorem State.resolveRange_inv {s : State} {a off : Nat} {r : Region} (ha : a < 0x10000) (h : s.resolveRange a = .cell r off) :
    s.hasByte r off = true ∧ s.addrOf r off = a := by
  have hb : ∀ (x : Banked) (r' : Region) (o : Nat), o < r'.size → x.locate r' o = .cell r off →
      r = r' ∧ off = x.index * r'.size + o ∧ off < x.count * r'.size := by
    intro x r' o ho hx
    rcases x.locate_cases r' o with ⟨h1, h2⟩ | ⟨h1, -⟩ <;> rw [h1] at hx
    rotate_left
    · cases hx
    injection hx with hx1 hx2
    refine ⟨hx1.symm, hx2.symm, ?_⟩
    calc off = x.index * r'.size + o := hx2.symm
      _ < (x.index + 1) * r'.size := by rw [Nat.succ_mul]; omega
      _ ≤ x.count * r'.size := Nat.mul_le_mul_right _ h2
  unfold State.resolveRange at h
  by_cases c0 : a ≤ 0x3FFF
  · rw [if_pos c0] at h
    obtain ⟨h1, h2⟩ := Loc.cell.injEq .. ▸ h
    subst h1
    exact ⟨decide_eq_true (by simp only [Region.size]; omega), by simp only [State.addrOf, Region.base]; omega⟩
  rw [if_neg c0] at h
  by_cases c1 : a ≤ 0x7FFF
  · rw [if_pos c1] at h
    obtain ⟨h1, h2, h3⟩ := hb _ _ _ (by simp only [Region.size]; omega) h
    subst h1
    simp only [Region.size] at h2 h3
    exact ⟨decide_eq_true h3, by simp only [State.addrOf]; omega⟩
  rw [if_neg c1] at h
  by_cases c2 : a ≤ 0x9FFF
  · rw [if_pos c2] at h
    obtain ⟨h1, h2⟩ := Loc.cell.injEq .. ▸ h
    subst h1
    exact ⟨decide_eq_true (by simp only [Region.size]; omega), by simp only [State.addrOf, Region.base]; omega⟩
  rw [if_neg c2] at h
  by_cases c3 : a ≤ 0xBFFF
  · rw [if_pos c3] at h
    obtain ⟨h1, h2, h3⟩ := hb _ _ _ (by simp only [Region.size]; omega) h
    subst h1
    simp only [Region.size] at h2 h3
    exact ⟨decide_eq_true h3, by simp only [State.addrOf]; omega⟩
  rw [if_neg c3] at h
  by_cases c4 : a ≤ 0xCFFF
  · rw [if_pos c4] at h
    obtain ⟨h1, h2⟩ := Loc.cell.injEq .. ▸ h
    subst h1
    exact ⟨decide_eq_true (by simp only [Region.size]; omega), by simp only [State.addrOf, Region.base]; omega⟩
  rw [if_neg c4] at h
  by_cases c5 : a ≤ 0xDFFF
  · rw [if_pos c5] at h
    obtain ⟨h1, h2, h3⟩ := hb _ _ _ (by simp only [Region.size]; omega) h
    subst h1
    simp only [Region.size] at h2 h3
    exact ⟨decide_eq_true h3, by simp only [State.addrOf]; omega⟩
  rw [if_neg c5] at h
  by_cases c6 : a ≤ 0xFDFF
  · rw [if_pos c6] at h
    cases h
  rw [if_neg c6] at h
  by_cases c7 : a ≤ 0xFE9F
  · rw [if_pos c7] at h
    obtain ⟨h1, h2⟩ := Loc.cell.injEq .. ▸ h
    subst h1
    exact ⟨decide_eq_true (by simp only [Region.size]; omega), by simp only [State.addrOf, Region.base]; omega⟩
  rw [if_neg c7] at h
  by_cases c8 : a ≤ 0xFEFF
  · rw [if_pos c8] at h
    cases h
  rw [if_neg c8] at h
  by_cases c9 : a ≤ 0xFF7F
  · rw [if_pos c9] at h
    obtain ⟨h1, h2⟩ := Loc.cell.injEq .. ▸ h
    subst h1
    exact ⟨decide_eq_true (by simp only [Region.size]; omega), by simp only [State.addrOf, Region.base]; omega⟩
  rw [if_neg c9] at h
  by_cases c10 : a ≤ 0xFFFE
  · rw [if_pos c10] at h
    obtain ⟨h1, h2⟩ := Loc.cell.injEq .. ▸ h
    subst h1
    exact ⟨decide_eq_true (by simp only [Region.size]; omega), by simp only [State.addrOf, Region.base]; omega⟩
  rw [if_neg c10] at h
  obtain ⟨h1, h2⟩ := Loc.cell.injEq .. ▸ h
  subst h1
  exact ⟨decide_eq_true (by simp only [Region.size]; omega), by simp only [State.addrOf, Region.base]; omega⟩

/-- What an address resolves to is a byte that exists. -/
theorem State.hasByte_resolve {s : State} {addr : Word} {r : Region} {off : Nat} (h : s.resolve addr = .cell r off) :
    s.hasByte r off = true := by
  have ha := addr.isLt
  rw [State.resolve_eq] at h
  split at h
  · exact (State.resolveRange_inv (by omega) h).1
  · exact (State.resolveRange_inv (by omega) h).1

/-! ## One cell -/

theorem State.loadCell_storeCell_ne (s : State) {r r' : Region} {off off' : Nat} (v : Byte) (hb : s.hasByte r off = true)
    (hb' : s.hasByte r' off' = true) (h : r ≠ r' ∨ off ≠ off') : (s.storeCell r' off' v).loadCell r off = s.loadCell r off := by
  have key : ∀ (r r' : Region) (off off' : Nat), off < r.size → off' < r'.size → (r ≠ r' ∨ off ≠ off') →
      r ≠ .rom1 → r ≠ .eram → r ≠ .wram1 → r' ≠ .rom1 → r' ≠ .eram → r' ≠ .wram1 → r.base + off ≠ r'.base + off' := by
    intro r r' off off' h1 h2 h3 _ _ _ _ _ _
    cases r <;> cases r' <;> simp_all [Region.size, Region.base] <;> omega
  cases r <;> cases r' <;> simp only [State.loadCell, State.storeCell] <;> apply Memory.read_write_ne <;>
    first
    | exact key _ _ _ _ (of_decide_eq_true hb) (of_decide_eq_true hb') h (by decide) (by decide) (by decide) (by decide) (by decide)
        (by decide)
    | exact h.resolve_left (fun h => h rfl)

/-- The byte lists that stores can change are in canonical form. -/
def State.canonical (s : State) : Prop := s.mem.wf = true ∧ s.rom1.data.wf = true ∧ s.eram.data.wf = true ∧ s.wram1.data.wf = true

theorem State.canonical_of_inv {s : State} (h : s.inv = true) : s.canonical := by
  simp only [State.inv, Banked.ok, Bool.and_eq_true] at h
  exact ⟨h.2.1, h.2.2.2.1.1, h.2.2.2.2.1.1, h.2.2.2.2.2.1.1⟩

theorem State.loadCell_storeCell_eq {s : State} (h : s.canonical) (r : Region) (off : Nat) (v : Byte) :
    (s.storeCell r off v).loadCell r off = v := by
  obtain ⟨h1, h2, h3, h4⟩ := h
  cases r <;> simp only [State.loadCell, State.storeCell] <;> apply Memory.read_write_eq <;> assumption

theorem State.canonical_storeCell {s : State} (h : s.canonical) (r : Region) (off : Nat) (v : Byte) :
    (s.storeCell r off v).canonical := by
  obtain ⟨h1, h2, h3, h4⟩ := h
  cases r <;> simp only [State.canonical, State.storeCell] <;> simp_all [Memory.wf_write]

/-! ## What leaves memory alone -/

/-- Reading a cell reads the four byte lists and nothing else. -/
theorem State.loadCell_congr {s t : State} (hm : t.mem = s.mem) (h1 : t.rom1 = s.rom1) (h2 : t.eram = s.eram) (h3 : t.wram1 = s.wram1)
    (r : Region) (off : Nat) : t.loadCell r off = s.loadCell r off := by
  cases r <;> simp [State.loadCell, hm, h1, h2, h3]

/-- Reading an address reads memory and the banks and nothing else. -/
theorem State.readByte_congr {s t : State} (hm : t.mem = s.mem) (h1 : t.rom1 = s.rom1) (h2 : t.eram = s.eram) (h3 : t.wram1 = s.wram1)
    (a : Word) : t.readByte a = s.readByte a := by
  unfold State.readByte
  rw [State.resolve_congr (s := s) (t := t) (by rw [h1]; exact ⟨rfl, rfl⟩) (by rw [h2]; exact ⟨rfl, rfl⟩) (by rw [h3]; exact ⟨rfl, rfl⟩) a]
  cases s.resolve a with
  | illegal => rfl
  | cell r off => exact State.loadCell_congr hm h1 h2 h3 r off

@[simp] theorem State.readByte_withCycles (s : State) (n : Nat) (a : Word) : (s.withCycles n).readByte a = s.readByte a :=
  State.readByte_congr (by simp) (by simp) (by simp) (by simp) a
@[simp] theorem State.readByte_popSp (s : State) (a : Word) : (s.popSp).readByte a = s.readByte a :=
  State.readByte_congr (by simp) (by simp) (by simp) (by simp) a
@[simp] theorem State.readByte_setFlags (s : State) (z n h c : Bool) (a : Word) : (s.setFlags z n h c).readByte a = s.readByte a :=
  State.readByte_congr (by simp) (by simp) (by simp) (by simp) a
@[simp] theorem State.readByte_setF (s : State) (v : Byte) (a : Word) : (s.setF v).readByte a = s.readByte a :=
  State.readByte_congr (by simp) (by simp) (by simp) (by simp) a
@[simp] theorem State.readByte_setReg (s : State) (r : Reg8) (v : Byte) (a : Word) : (s.setReg r v).readByte a = s.readByte a :=
  State.readByte_congr (by simp) (by simp) (by simp) (by simp) a
@[simp] theorem State.readByte_setHL (s : State) (v : Word) (a : Word) : (s.setHL v).readByte a = s.readByte a :=
  State.readByte_congr (by simp) (by simp) (by simp) (by simp) a
@[simp] theorem State.readByte_setPair (s : State) (p : Pair) (v : Word) (a : Word) : (s.setPair p v).readByte a = s.readByte a :=
  State.readByte_congr (by simp) (by simp) (by simp) (by simp) a
@[simp] theorem State.readByte_setStackPair (s : State) (q : StackPair) (v : Word) (a : Word) : (s.setStackPair q v).readByte a = s.readByte a :=
  State.readByte_congr (by simp) (by simp) (by simp) (by simp) a
@[simp] theorem State.readByte_raiseIllegal (s : State) (op : Byte) (a : Word) : (s.raiseIllegal op).readByte a = s.readByte a :=
  State.readByte_congr (by simp) (by simp) (by simp) (by simp) a

/-! ## Writing a byte -/

/-- Everything `writeByte` can do: nothing, or one cell stored, with the dirty flag set in ERAM. -/
theorem State.writeByte_cases (s : State) (addr : Word) (v : Byte) :
    (s.writable addr = false ∧ s.writeByte addr v = s) ∨
    (∃ r off, s.resolve addr = .cell r off ∧ s.writable addr = true ∧ s.hasByte r off = true ∧ r ≠ .rom0 ∧ r ≠ .rom1 ∧
      s.writeByte addr v = { s.storeCell r off v with eramDirty := s.eramDirty || r == .eram }) := by
  have hw : ∀ o : Loc, (o.writable = false ∧ s.writeLoc o v = s) ∨ (∃ r off, o = .cell r off ∧ o.writable = true ∧ r ≠ .rom0 ∧ r ≠ .rom1 ∧
      s.writeLoc o v = { s.storeCell r off v with eramDirty := s.eramDirty || r == .eram }) := by
    intro o
    rcases o with ⟨r, off⟩ | _
    · cases r <;> first
        | exact .inl ⟨rfl, rfl⟩
        | (refine .inr ⟨_, _, rfl, rfl, by decide, by decide, ?_⟩
           simp [State.writeLoc, State.storeCell])
    · exact .inl ⟨rfl, rfl⟩
  rcases hw (s.resolve addr) with h | ⟨r, off, h1, h2, h3, h4, h5⟩
  · exact .inl h
  · exact .inr ⟨r, off, h1, h2, State.hasByte_resolve h1, h3, h4, h5⟩

@[simp] theorem State.resolve_writeByte (s : State) (addr a : Word) (v : Byte) : (s.writeByte addr v).resolve a = s.resolve a := by
  rcases s.writeByte_cases addr v with ⟨-, h⟩ | ⟨r, off, -, -, -, -, -, h⟩ <;> rw [h]
  cases r <;> exact State.resolve_congr ⟨rfl, rfl⟩ ⟨rfl, rfl⟩ ⟨rfl, rfl⟩ a

@[simp] theorem State.writable_writeByte (s : State) (addr a : Word) (v : Byte) : (s.writeByte addr v).writable a = s.writable a := by
  simp [State.writable]

@[simp] theorem State.hasByte_writeByte (s : State) (addr : Word) (v : Byte) (r : Region) (off : Nat) :
    (s.writeByte addr v).hasByte r off = s.hasByte r off := by
  rcases s.writeByte_cases addr v with ⟨-, h⟩ | ⟨r', off', -, -, -, -, -, h⟩ <;> rw [h]
  cases r' <;> cases r <;> rfl

theorem State.eramDirty_writeByte (s : State) (addr : Word) (v : Byte) :
    (s.writeByte addr v).eramDirty = (s.eramDirty || (s.resolve addr).inEram) := by
  unfold State.writeByte
  rcases s.resolve addr with ⟨r, off⟩ | _
  · cases r <;> simp [State.writeLoc, State.storeCell, Loc.inEram]
  · simp [State.writeLoc, Loc.inEram]

/-- A cell that the address does not resolve to keeps its byte. -/
theorem State.loadCell_writeByte_ne (s : State) {addr : Word} (v : Byte) {r : Region} {off : Nat} (hb : s.hasByte r off = true)
    (h : s.writable addr = true → s.resolve addr ≠ .cell r off) : (s.writeByte addr v).loadCell r off = s.loadCell r off := by
  rcases s.writeByte_cases addr v with ⟨-, h'⟩ | ⟨r', off', h1, h2, h3, -, -, h'⟩ <;> rw [h']
  have hne : r ≠ r' ∨ off ≠ off' := by
    by_cases hr : r = r'
    · right; rintro rfl; exact h h2 (by rw [h1, hr])
    · exact .inl hr
  rw [← State.loadCell_storeCell_ne s v hb h3 hne]
  cases r <;> rfl

/-- A read of an address that resolves elsewhere gives what it gave before. -/
theorem State.readByte_writeByte_ne (s : State) {addr a : Word} (v : Byte)
    (h : s.writable addr = true → s.resolve a ≠ s.resolve addr) : (s.writeByte addr v).readByte a = s.readByte a := by
  unfold State.readByte
  rw [State.resolve_writeByte]
  rcases hr : s.resolve a with ⟨r, off⟩ | _
  · exact State.loadCell_writeByte_ne s v (State.hasByte_resolve hr) (fun hw he => h hw (by rw [hr, he]))
  · rfl

/-- A read after a write that lands gives the value written. -/
theorem State.readByte_writeByte_eq {s : State} (hc : s.canonical) {addr : Word} (v : Byte) (h : s.writable addr = true) :
    (s.writeByte addr v).readByte addr = v := by
  rcases s.writeByte_cases addr v with ⟨h', -⟩ | ⟨r, off, h1, -, -, -, -, h'⟩
  · rw [h] at h'; contradiction
  · unfold State.readByte
    rw [State.resolve_writeByte, h1, h']
    have := State.loadCell_storeCell_eq hc r off v
    cases r <;> exact this

theorem State.canonical_writeByte {s : State} (h : s.canonical) (addr : Word) (v : Byte) : (s.writeByte addr v).canonical := by
  rcases s.writeByte_cases addr v with ⟨-, h'⟩ | ⟨r, off, -, -, -, -, -, h'⟩ <;> rw [h']
  · exact h
  · exact State.canonical_storeCell h r off v

theorem State.readByte_eq_illegal {s : State} {addr : Word} (h : s.resolve addr = .illegal) : s.readByte addr = 0xFF := by
  rw [State.readByte, h]; rfl

/-- What a write leaves of the switchable regions: everything but the bytes. -/
theorem State.banks_writeByte (s : State) (addr : Word) (v : Byte) :
    (s.writeByte addr v).eram.count = s.eram.count ∧ (s.writeByte addr v).eram.index = s.eram.index ∧
    (s.writeByte addr v).eram.init = s.eram.init ∧ (s.writeByte addr v).wram1.count = s.wram1.count ∧
    (s.writeByte addr v).wram1.index = s.wram1.index ∧ (s.writeByte addr v).wram1.init = s.wram1.init := by
  rcases s.writeByte_cases addr v with ⟨-, h⟩ | ⟨r, off, -, -, -, -, -, h⟩ <;> rw [h]
  · exact ⟨rfl, rfl, rfl, rfl, rfl, rfl⟩
  · cases r <;> exact ⟨rfl, rfl, rfl, rfl, rfl, rfl⟩

@[simp] theorem State.eram_count_writeByte (s : State) (addr : Word) (v : Byte) : (s.writeByte addr v).eram.count = s.eram.count :=
  (s.banks_writeByte addr v).1
@[simp] theorem State.eram_index_writeByte (s : State) (addr : Word) (v : Byte) : (s.writeByte addr v).eram.index = s.eram.index :=
  (s.banks_writeByte addr v).2.1
@[simp] theorem State.eram_init_writeByte (s : State) (addr : Word) (v : Byte) : (s.writeByte addr v).eram.init = s.eram.init :=
  (s.banks_writeByte addr v).2.2.1
@[simp] theorem State.wram1_count_writeByte (s : State) (addr : Word) (v : Byte) : (s.writeByte addr v).wram1.count = s.wram1.count :=
  (s.banks_writeByte addr v).2.2.2.1
@[simp] theorem State.wram1_index_writeByte (s : State) (addr : Word) (v : Byte) : (s.writeByte addr v).wram1.index = s.wram1.index :=
  (s.banks_writeByte addr v).2.2.2.2.1
@[simp] theorem State.wram1_init_writeByte (s : State) (addr : Word) (v : Byte) : (s.writeByte addr v).wram1.init = s.wram1.init :=
  (s.banks_writeByte addr v).2.2.2.2.2

/-! ## Two adjacent addresses -/

/-- The address with the echo folded onto its target (R89). -/
def unecho (addr : Word) : Nat := if 0xE000 ≤ addr.toNat ∧ addr.toNat ≤ 0xFDFF then addr.toNat - 0x2000 else addr.toNat

/-- Only an address and its echo resolve to the same cell. -/
theorem State.unecho_eq_of_resolve_eq {s : State} {a a' : Word} (h : s.resolve a = s.resolve a') (hi : s.resolve a ≠ .illegal) :
    unecho a = unecho a' := by
  have key : ∀ x : Word, s.resolve x = s.resolveRange (unecho x) := by
    intro x; rw [State.resolve_eq]; unfold unecho; split <;> rfl
  have hlt : ∀ x : Word, unecho x < 0x10000 := by
    intro x; have := x.isLt; unfold unecho; split <;> omega
  rw [key] at hi
  rw [key, key] at h
  rcases hr : s.resolveRange (unecho a) with ⟨r, off⟩ | _
  · rw [← (State.resolveRange_inv (hlt a) hr).2, ← (State.resolveRange_inv (hlt a') (h ▸ hr)).2]
  · exact absurd hr hi

/-- Two adjacent addresses never resolve to the same cell. -/
theorem State.resolve_succ_ne {s : State} {addr : Word} (h : s.writable addr = true) : s.resolve (addr + 1) ≠ s.resolve addr := by
  have ha := addr.isLt
  have hi : s.resolve addr ≠ .illegal := by
    intro h'; rw [State.writable, h'] at h; exact absurd h (by decide)
  intro he
  have := State.unecho_eq_of_resolve_eq he (he ▸ hi)
  have hs : (addr + 1).toNat = if addr.toNat = 0xFFFF then 0 else addr.toNat + 1 := by
    rw [BitVec.toNat_add]; split <;> simp <;> omega
  unfold unecho at this
  rw [hs] at this
  split at this <;> split at this <;> split at this <;> omega

end Sys2Proof.Machine
end

