-- ==== Sys2Proof/Laws/Exec.lean ====
section
/-! SUPPORT. What `exec` can do, said once: every instruction is one of the forms below, its meaning the form's shared
operation. A claim over all instructions is a case analysis of `meaning`. -/

namespace Sys2Proof.Machine

/-- The instruction `i` runs at `s` with the result `r`: one constructor per form. -/
inductive Meaning (s : State) : Instr → Result → Prop where
  | ldReg (dst src : Reg8) : Meaning s (mkLdReg dst src) (ldReg dst src s)
  | ldImm (n : Byte) (dst : Reg8) : Meaning s (mkLdImm n dst) (ldImm dst n s)
  | ldFromHL (dst : Reg8) : Meaning s (mkLdFromHL dst) (ldFromHL dst s)
  | ldToHL (r : Reg8) : Meaning s (mkLdToHL r) (ldToHL r s)
  | ldImmToHL (n : Byte) : Meaning s (.ld_mHL_d8 n) (ldImmToHL n s)
  | ldAFromBC : Meaning s .ld_A_mBC (ldAFrom s.bc 8 s)
  | ldAFromDE : Meaning s .ld_A_mDE (ldAFrom s.de 8 s)
  | ldAFromAbs (v : Word) : Meaning s (.ld_A_mA16 v) (ldAFrom v 16 s)
  | ldAFromHigh (n : Byte) : Meaning s (.ldh_A_mA8 n) (ldAFrom (highPage n) 12 s)
  | ldAFromHighC : Meaning s .ldh_A_mC (ldAFrom (highPage s.c) 8 s)
  | ldAToBC : Meaning s .ld_mBC_A (ldATo s.bc 8 s)
  | ldAToDE : Meaning s .ld_mDE_A (ldATo s.de 8 s)
  | ldAToAbs (v : Word) : Meaning s (.ld_mA16_A v) (ldATo v 16 s)
  | ldAToHigh (n : Byte) : Meaning s (.ldh_mA8_A n) (ldATo (highPage n) 12 s)
  | ldAToHighC : Meaning s .ldh_mC_A (ldATo (highPage s.c) 8 s)
  | ldAFromHLInc : Meaning s .ld_A_mHLinc (ldAFromHLThen (s.hl + 1) s)
  | ldAFromHLDec : Meaning s .ld_A_mHLdec (ldAFromHLThen (s.hl - 1) s)
  | ldAToHLInc : Meaning s .ld_mHLinc_A (ldAToHLThen (s.hl + 1) s)
  | ldAToHLDec : Meaning s .ld_mHLdec_A (ldAToHLThen (s.hl - 1) s)
  | ldPair (v : Word) (p : Pair) : Meaning s (mkLdPair v p) (ldPair p v s)
  | ldSpTo (v : Word) : Meaning s (.ld_mA16_SP v) (ldSpTo v s)
  | ldSpHL : Meaning s .ld_SP_HL (ldSpHL s)
  | ldHLSp (n : Byte) : Meaning s (.ld_HL_SPs8 n) (ldHLSp n s)
  | push (q : StackPair) : Meaning s (mkPush q) (push q s)
  | pop (q : StackPair) : Meaning s (mkPop q) (pop q s)
  | aluReg (op : AluOp) (r : Reg8) : Meaning s (mkAluReg op r) (aluReg op r s)
  | aluHL (op : AluOp) : Meaning s (mkAluHL op) (aluHL op s)
  | aluImm (n : Byte) (op : AluOp) : Meaning s (mkAluImm n op) (aluImm op n s)
  | incReg (r : Reg8) : Meaning s (mkInc r) (incReg r s)
  | incHL : Meaning s .inc_mHL (incHL s)
  | decReg (r : Reg8) : Meaning s (mkDec r) (decReg r s)
  | decHL : Meaning s .dec_mHL (decHL s)
  | addHL (p : Pair) : Meaning s (mkAddHL p) (addHL p s)
  | incPair (p : Pair) : Meaning s (mkIncPair p) (incPair p s)
  | decPair (p : Pair) : Meaning s (mkDecPair p) (decPair p s)
  | addSp (n : Byte) : Meaning s (.add_SP_s8 n) (addSp n s)
  | rlca : Meaning s .rlca (rotateA .rlc s)
  | rrca : Meaning s .rrca (rotateA .rrc s)
  | rla : Meaning s .rla (rotateA .rl s)
  | rra : Meaning s .rra (rotateA .rr s)
  | shiftReg (op : ShiftOp) (r : Reg8) : Meaning s (mkShiftReg op r) (shiftReg op r s)
  | shiftHL (op : ShiftOp) : Meaning s (mkShiftHL op) (shiftHL op s)
  | bitReg (b : Fin 8) (r : Reg8) : Meaning s (mkBitReg b r) (bitReg b r s)
  | bitHL (b : Fin 8) : Meaning s (mkBitHL b) (bitHL b s)
  | resReg (b : Fin 8) (r : Reg8) : Meaning s (mkResReg b r) (resReg b r s)
  | resHL (b : Fin 8) : Meaning s (mkResHL b) (resHL b s)
  | setReg (b : Fin 8) (r : Reg8) : Meaning s (mkSetReg b r) (setReg b r s)
  | setHL (b : Fin 8) : Meaning s (mkSetHL b) (setHL b s)
  | prefixCB : Meaning s .prefixCB (extended s)
  | jp (v : Word) : Meaning s (.jp_a16 v) (jump v 16 s)
  | jpHL : Meaning s .jp_HL (jump s.hl 4 s)
  | jpCond (v : Word) (cc : Cond) : Meaning s (mkJpCond v cc) (jumpIf cc v s)
  | jr (e : Byte) : Meaning s (.jr_s8 e) (jumpRel e s)
  | jrCond (e : Byte) (cc : Cond) : Meaning s (mkJrCond e cc) (jumpRelIf cc e s)
  | call (v : Word) : Meaning s (.call_a16 v) (call v 24 s)
  | callCond (v : Word) (cc : Cond) : Meaning s (mkCallCond v cc) (callIf cc v s)
  | ret : Meaning s .ret (ret 16 s)
  | retCond (cc : Cond) : Meaning s (mkRetCond cc) (retIf cc s)
  | reti : Meaning s .reti (reti s)
  | rst (t : Fin 8) : Meaning s (mkRst t) (restart t s)
  | nop : Meaning s .nop (nop s)
  | daa : Meaning s .daa (adjust s)
  | cpl : Meaning s .cpl (complement s)
  | scf : Meaning s .scf (setCarry s)
  | ccf : Meaning s .ccf (flipCarry s)
  | ei : Meaning s .ei (enable s)
  | di : Meaning s .di (disable s)
  | halt : Meaning s .halt (halt s)
  | stop (n : Byte) : Meaning s (.stop n) (stopped n s)
  | illegal (i : Instr) (op : Byte) (h : i.isIllegal = true) (he : encode i = [op]) : Meaning s i (illegal op s)

/-- Every instruction is one of the forms, and `exec` gives the form's result. -/
theorem meaning (s : State) (i : Instr) : Meaning s i (exec i s) :=
  match i with
  | .ld_BC_d16 v => .ldPair v .bc
  | .ld_B_d8 v => .ldImm v .b
  | .ld_mA16_SP v => .ldSpTo v
  | .ld_C_d8 v => .ldImm v .c
  | .stop v => .stop v
  | .ld_DE_d16 v => .ldPair v .de
  | .ld_D_d8 v => .ldImm v .d
  | .jr_s8 v => .jr v
  | .ld_E_d8 v => .ldImm v .e
  | .jr_NZ_s8 v => .jrCond v .nz
  | .ld_HL_d16 v => .ldPair v .hl
  | .ld_H_d8 v => .ldImm v .h
  | .jr_Z_s8 v => .jrCond v .z
  | .ld_L_d8 v => .ldImm v .l
  | .jr_NC_s8 v => .jrCond v .nc
  | .ld_SP_d16 v => .ldPair v .sp
  | .ld_mHL_d8 v => .ldImmToHL v
  | .jr_C_s8 v => .jrCond v .c
  | .ld_A_d8 v => .ldImm v .a
  | .jp_NZ_a16 v => .jpCond v .nz
  | .jp_a16 v => .jp v
  | .call_NZ_a16 v => .callCond v .nz
  | .add_A_d8 v => .aluImm v .add
  | .jp_Z_a16 v => .jpCond v .z
  | .call_Z_a16 v => .callCond v .z
  | .call_a16 v => .call v
  | .adc_A_d8 v => .aluImm v .adc
  | .jp_NC_a16 v => .jpCond v .nc
  | .call_NC_a16 v => .callCond v .nc
  | .sub_d8 v => .aluImm v .sub
  | .jp_C_a16 v => .jpCond v .c
  | .call_C_a16 v => .callCond v .c
  | .sbc_A_d8 v => .aluImm v .sbc
  | .ldh_mA8_A v => .ldAToHigh v
  | .and_d8 v => .aluImm v .and
  | .add_SP_s8 v => .addSp v
  | .ld_mA16_A v => .ldAToAbs v
  | .xor_d8 v => .aluImm v .xor
  | .ldh_A_mA8 v => .ldAFromHigh v
  | .or_d8 v => .aluImm v .or
  | .ld_HL_SPs8 v => .ldHLSp v
  | .ld_A_mA16 v => .ldAFromAbs v
  | .cp_d8 v => .aluImm v .cp
  | .nop => .nop
  | .ld_mBC_A => .ldAToBC
  | .inc_BC => .incPair .bc
  | .inc_B => .incReg .b
  | .dec_B => .decReg .b
  | .rlca => .rlca
  | .add_HL_BC => .addHL .bc
  | .ld_A_mBC => .ldAFromBC
  | .dec_BC => .decPair .bc
  | .inc_C => .incReg .c
  | .dec_C => .decReg .c
  | .rrca => .rrca
  | .ld_mDE_A => .ldAToDE
  | .inc_DE => .incPair .de
  | .inc_D => .incReg .d
  | .dec_D => .decReg .d
  | .rla => .rla
  | .add_HL_DE => .addHL .de
  | .ld_A_mDE => .ldAFromDE
  | .dec_DE => .decPair .de
  | .inc_E => .incReg .e
  | .dec_E => .decReg .e
  | .rra => .rra
  | .ld_mHLinc_A => .ldAToHLInc
  | .inc_HL => .incPair .hl
  | .inc_H => .incReg .h
  | .dec_H => .decReg .h
  | .daa => .daa
  | .add_HL_HL => .addHL .hl
  | .ld_A_mHLinc => .ldAFromHLInc
  | .dec_HL => .decPair .hl
  | .inc_L => .incReg .l
  | .dec_L => .decReg .l
  | .cpl => .cpl
  | .ld_mHLdec_A => .ldAToHLDec
  | .inc_SP => .incPair .sp
  | .inc_mHL => .incHL
  | .dec_mHL => .decHL
  | .scf => .scf
  | .add_HL_SP => .addHL .sp
  | .ld_A_mHLdec => .ldAFromHLDec
  | .dec_SP => .decPair .sp
  | .inc_A => .incReg .a
  | .dec_A => .decReg .a
  | .ccf => .ccf
  | .ld_B_B => .ldReg .b .b
  | .ld_B_C => .ldReg .b .c
  | .ld_B_D => .ldReg .b .d
  | .ld_B_E => .ldReg .b .e
  | .ld_B_H => .ldReg .b .h
  | .ld_B_L => .ldReg .b .l
  | .ld_B_mHL => .ldFromHL .b
  | .ld_B_A => .ldReg .b .a
  | .ld_C_B => .ldReg .c .b
  | .ld_C_C => .ldReg .c .c
  | .ld_C_D => .ldReg .c .d
  | .ld_C_E => .ldReg .c .e
  | .ld_C_H => .ldReg .c .h
  | .ld_C_L => .ldReg .c .l
  | .ld_C_mHL => .ldFromHL .c
  | .ld_C_A => .ldReg .c .a
  | .ld_D_B => .ldReg .d .b
  | .ld_D_C => .ldReg .d .c
  | .ld_D_D => .ldReg .d .d
  | .ld_D_E => .ldReg .d .e
  | .ld_D_H => .ldReg .d .h
  | .ld_D_L => .ldReg .d .l
  | .ld_D_mHL => .ldFromHL .d
  | .ld_D_A => .ldReg .d .a
  | .ld_E_B => .ldReg .e .b
  | .ld_E_C => .ldReg .e .c
  | .ld_E_D => .ldReg .e .d
  | .ld_E_E => .ldReg .e .e
  | .ld_E_H => .ldReg .e .h
  | .ld_E_L => .ldReg .e .l
  | .ld_E_mHL => .ldFromHL .e
  | .ld_E_A => .ldReg .e .a
  | .ld_H_B => .ldReg .h .b
  | .ld_H_C => .ldReg .h .c
  | .ld_H_D => .ldReg .h .d
  | .ld_H_E => .ldReg .h .e
  | .ld_H_H => .ldReg .h .h
  | .ld_H_L => .ldReg .h .l
  | .ld_H_mHL => .ldFromHL .h
  | .ld_H_A => .ldReg .h .a
  | .ld_L_B => .ldReg .l .b
  | .ld_L_C => .ldReg .l .c
  | .ld_L_D => .ldReg .l .d
  | .ld_L_E => .ldReg .l .e
  | .ld_L_H => .ldReg .l .h
  | .ld_L_L => .ldReg .l .l
  | .ld_L_mHL => .ldFromHL .l
  | .ld_L_A => .ldReg .l .a
  | .ld_mHL_B => .ldToHL .b
  | .ld_mHL_C => .ldToHL .c
  | .ld_mHL_D => .ldToHL .d
  | .ld_mHL_E => .ldToHL .e
  | .ld_mHL_H => .ldToHL .h
  | .ld_mHL_L => .ldToHL .l
  | .halt => .halt
  | .ld_mHL_A => .ldToHL .a
  | .ld_A_B => .ldReg .a .b
  | .ld_A_C => .ldReg .a .c
  | .ld_A_D => .ldReg .a .d
  | .ld_A_E => .ldReg .a .e
  | .ld_A_H => .ldReg .a .h
  | .ld_A_L => .ldReg .a .l
  | .ld_A_mHL => .ldFromHL .a
  | .ld_A_A => .ldReg .a .a
  | .add_A_B => .aluReg .add .b
  | .add_A_C => .aluReg .add .c
  | .add_A_D => .aluReg .add .d
  | .add_A_E => .aluReg .add .e
  | .add_A_H => .aluReg .add .h
  | .add_A_L => .aluReg .add .l
  | .add_A_mHL => .aluHL .add
  | .add_A_A => .aluReg .add .a
  | .adc_A_B => .aluReg .adc .b
  | .adc_A_C => .aluReg .adc .c
  | .adc_A_D => .aluReg .adc .d
  | .adc_A_E => .aluReg .adc .e
  | .adc_A_H => .aluReg .adc .h
  | .adc_A_L => .aluReg .adc .l
  | .adc_A_mHL => .aluHL .adc
  | .adc_A_A => .aluReg .adc .a
  | .sub_B => .aluReg .sub .b
  | .sub_C => .aluReg .sub .c
  | .sub_D => .aluReg .sub .d
  | .sub_E => .aluReg .sub .e
  | .sub_H => .aluReg .sub .h
  | .sub_L => .aluReg .sub .l
  | .sub_mHL => .aluHL .sub
  | .sub_A => .aluReg .sub .a
  | .sbc_A_B => .aluReg .sbc .b
  | .sbc_A_C => .aluReg .sbc .c
  | .sbc_A_D => .aluReg .sbc .d
  | .sbc_A_E => .aluReg .sbc .e
  | .sbc_A_H => .aluReg .sbc .h
  | .sbc_A_L => .aluReg .sbc .l
  | .sbc_A_mHL => .aluHL .sbc
  | .sbc_A_A => .aluReg .sbc .a
  | .and_B => .aluReg .and .b
  | .and_C => .aluReg .and .c
  | .and_D => .aluReg .and .d
  | .and_E => .aluReg .and .e
  | .and_H => .aluReg .and .h
  | .and_L => .aluReg .and .l
  | .and_mHL => .aluHL .and
  | .and_A => .aluReg .and .a
  | .xor_B => .aluReg .xor .b
  | .xor_C => .aluReg .xor .c
  | .xor_D => .aluReg .xor .d
  | .xor_E => .aluReg .xor .e
  | .xor_H => .aluReg .xor .h
  | .xor_L => .aluReg .xor .l
  | .xor_mHL => .aluHL .xor
  | .xor_A => .aluReg .xor .a
  | .or_B => .aluReg .or .b
  | .or_C => .aluReg .or .c
  | .or_D => .aluReg .or .d
  | .or_E => .aluReg .or .e
  | .or_H => .aluReg .or .h
  | .or_L => .aluReg .or .l
  | .or_mHL => .aluHL .or
  | .or_A => .aluReg .or .a
  | .cp_B => .aluReg .cp .b
  | .cp_C => .aluReg .cp .c
  | .cp_D => .aluReg .cp .d
  | .cp_E => .aluReg .cp .e
  | .cp_H => .aluReg .cp .h
  | .cp_L => .aluReg .cp .l
  | .cp_mHL => .aluHL .cp
  | .cp_A => .aluReg .cp .a
  | .ret_NZ => .retCond .nz
  | .pop_BC => .pop .bc
  | .push_BC => .push .bc
  | .rst_00 => .rst 0
  | .ret_Z => .retCond .z
  | .ret => .ret
  | .prefixCB => .prefixCB
  | .rst_08 => .rst 1
  | .ret_NC => .retCond .nc
  | .pop_DE => .pop .de
  | .illegal_D3 => .illegal _ _ rfl rfl
  | .push_DE => .push .de
  | .rst_10 => .rst 2
  | .ret_C => .retCond .c
  | .reti => .reti
  | .illegal_DB => .illegal _ _ rfl rfl
  | .illegal_DD => .illegal _ _ rfl rfl
  | .rst_18 => .rst 3
  | .pop_HL => .pop .hl
  | .ldh_mC_A => .ldAToHighC
  | .illegal_E3 => .illegal _ _ rfl rfl
  | .illegal_E4 => .illegal _ _ rfl rfl
  | .push_HL => .push .hl
  | .rst_20 => .rst 4
  | .jp_HL => .jpHL
  | .illegal_EB => .illegal _ _ rfl rfl
  | .illegal_EC => .illegal _ _ rfl rfl
  | .illegal_ED => .illegal _ _ rfl rfl
  | .rst_28 => .rst 5
  | .pop_AF => .pop .af
  | .ldh_A_mC => .ldAFromHighC
  | .di => .di
  | .illegal_F4 => .illegal _ _ rfl rfl
  | .push_AF => .push .af
  | .rst_30 => .rst 6
  | .ld_SP_HL => .ldSpHL
  | .ei => .ei
  | .illegal_FC => .illegal _ _ rfl rfl
  | .illegal_FD => .illegal _ _ rfl rfl
  | .rst_38 => .rst 7
  | .rlc_B => .shiftReg .rlc .b
  | .rlc_C => .shiftReg .rlc .c
  | .rlc_D => .shiftReg .rlc .d
  | .rlc_E => .shiftReg .rlc .e
  | .rlc_H => .shiftReg .rlc .h
  | .rlc_L => .shiftReg .rlc .l
  | .rlc_mHL => .shiftHL .rlc
  | .rlc_A => .shiftReg .rlc .a
  | .rrc_B => .shiftReg .rrc .b
  | .rrc_C => .shiftReg .rrc .c
  | .rrc_D => .shiftReg .rrc .d
  | .rrc_E => .shiftReg .rrc .e
  | .rrc_H => .shiftReg .rrc .h
  | .rrc_L => .shiftReg .rrc .l
  | .rrc_mHL => .shiftHL .rrc
  | .rrc_A => .shiftReg .rrc .a
  | .rl_B => .shiftReg .rl .b
  | .rl_C => .shiftReg .rl .c
  | .rl_D => .shiftReg .rl .d
  | .rl_E => .shiftReg .rl .e
  | .rl_H => .shiftReg .rl .h
  | .rl_L => .shiftReg .rl .l
  | .rl_mHL => .shiftHL .rl
  | .rl_A => .shiftReg .rl .a
  | .rr_B => .shiftReg .rr .b
  | .rr_C => .shiftReg .rr .c
  | .rr_D => .shiftReg .rr .d
  | .rr_E => .shiftReg .rr .e
  | .rr_H => .shiftReg .rr .h
  | .rr_L => .shiftReg .rr .l
  | .rr_mHL => .shiftHL .rr
  | .rr_A => .shiftReg .rr .a
  | .sla_B => .shiftReg .sla .b
  | .sla_C => .shiftReg .sla .c
  | .sla_D => .shiftReg .sla .d
  | .sla_E => .shiftReg .sla .e
  | .sla_H => .shiftReg .sla .h
  | .sla_L => .shiftReg .sla .l
  | .sla_mHL => .shiftHL .sla
  | .sla_A => .shiftReg .sla .a
  | .sra_B => .shiftReg .sra .b
  | .sra_C => .shiftReg .sra .c
  | .sra_D => .shiftReg .sra .d
  | .sra_E => .shiftReg .sra .e
  | .sra_H => .shiftReg .sra .h
  | .sra_L => .shiftReg .sra .l
  | .sra_mHL => .shiftHL .sra
  | .sra_A => .shiftReg .sra .a
  | .swap_B => .shiftReg .swap .b
  | .swap_C => .shiftReg .swap .c
  | .swap_D => .shiftReg .swap .d
  | .swap_E => .shiftReg .swap .e
  | .swap_H => .shiftReg .swap .h
  | .swap_L => .shiftReg .swap .l
  | .swap_mHL => .shiftHL .swap
  | .swap_A => .shiftReg .swap .a
  | .srl_B => .shiftReg .srl .b
  | .srl_C => .shiftReg .srl .c
  | .srl_D => .shiftReg .srl .d
  | .srl_E => .shiftReg .srl .e
  | .srl_H => .shiftReg .srl .h
  | .srl_L => .shiftReg .srl .l
  | .srl_mHL => .shiftHL .srl
  | .srl_A => .shiftReg .srl .a
  | .bit_0_B => .bitReg 0 .b
  | .bit_0_C => .bitReg 0 .c
  | .bit_0_D => .bitReg 0 .d
  | .bit_0_E => .bitReg 0 .e
  | .bit_0_H => .bitReg 0 .h
  | .bit_0_L => .bitReg 0 .l
  | .bit_0_mHL => .bitHL 0
  | .bit_0_A => .bitReg 0 .a
  | .bit_1_B => .bitReg 1 .b
  | .bit_1_C => .bitReg 1 .c
  | .bit_1_D => .bitReg 1 .d
  | .bit_1_E => .bitReg 1 .e
  | .bit_1_H => .bitReg 1 .h
  | .bit_1_L => .bitReg 1 .l
  | .bit_1_mHL => .bitHL 1
  | .bit_1_A => .bitReg 1 .a
  | .bit_2_B => .bitReg 2 .b
  | .bit_2_C => .bitReg 2 .c
  | .bit_2_D => .bitReg 2 .d
  | .bit_2_E => .bitReg 2 .e
  | .bit_2_H => .bitReg 2 .h
  | .bit_2_L => .bitReg 2 .l
  | .bit_2_mHL => .bitHL 2
  | .bit_2_A => .bitReg 2 .a
  | .bit_3_B => .bitReg 3 .b
  | .bit_3_C => .bitReg 3 .c
  | .bit_3_D => .bitReg 3 .d
  | .bit_3_E => .bitReg 3 .e
  | .bit_3_H => .bitReg 3 .h
  | .bit_3_L => .bitReg 3 .l
  | .bit_3_mHL => .bitHL 3
  | .bit_3_A => .bitReg 3 .a
  | .bit_4_B => .bitReg 4 .b
  | .bit_4_C => .bitReg 4 .c
  | .bit_4_D => .bitReg 4 .d
  | .bit_4_E => .bitReg 4 .e
  | .bit_4_H => .bitReg 4 .h
  | .bit_4_L => .bitReg 4 .l
  | .bit_4_mHL => .bitHL 4
  | .bit_4_A => .bitReg 4 .a
  | .bit_5_B => .bitReg 5 .b
  | .bit_5_C => .bitReg 5 .c
  | .bit_5_D => .bitReg 5 .d
  | .bit_5_E => .bitReg 5 .e
  | .bit_5_H => .bitReg 5 .h
  | .bit_5_L => .bitReg 5 .l
  | .bit_5_mHL => .bitHL 5
  | .bit_5_A => .bitReg 5 .a
  | .bit_6_B => .bitReg 6 .b
  | .bit_6_C => .bitReg 6 .c
  | .bit_6_D => .bitReg 6 .d
  | .bit_6_E => .bitReg 6 .e
  | .bit_6_H => .bitReg 6 .h
  | .bit_6_L => .bitReg 6 .l
  | .bit_6_mHL => .bitHL 6
  | .bit_6_A => .bitReg 6 .a
  | .bit_7_B => .bitReg 7 .b
  | .bit_7_C => .bitReg 7 .c
  | .bit_7_D => .bitReg 7 .d
  | .bit_7_E => .bitReg 7 .e
  | .bit_7_H => .bitReg 7 .h
  | .bit_7_L => .bitReg 7 .l
  | .bit_7_mHL => .bitHL 7
  | .bit_7_A => .bitReg 7 .a
  | .res_0_B => .resReg 0 .b
  | .res_0_C => .resReg 0 .c
  | .res_0_D => .resReg 0 .d
  | .res_0_E => .resReg 0 .e
  | .res_0_H => .resReg 0 .h
  | .res_0_L => .resReg 0 .l
  | .res_0_mHL => .resHL 0
  | .res_0_A => .resReg 0 .a
  | .res_1_B => .resReg 1 .b
  | .res_1_C => .resReg 1 .c
  | .res_1_D => .resReg 1 .d
  | .res_1_E => .resReg 1 .e
  | .res_1_H => .resReg 1 .h
  | .res_1_L => .resReg 1 .l
  | .res_1_mHL => .resHL 1
  | .res_1_A => .resReg 1 .a
  | .res_2_B => .resReg 2 .b
  | .res_2_C => .resReg 2 .c
  | .res_2_D => .resReg 2 .d
  | .res_2_E => .resReg 2 .e
  | .res_2_H => .resReg 2 .h
  | .res_2_L => .resReg 2 .l
  | .res_2_mHL => .resHL 2
  | .res_2_A => .resReg 2 .a
  | .res_3_B => .resReg 3 .b
  | .res_3_C => .resReg 3 .c
  | .res_3_D => .resReg 3 .d
  | .res_3_E => .resReg 3 .e
  | .res_3_H => .resReg 3 .h
  | .res_3_L => .resReg 3 .l
  | .res_3_mHL => .resHL 3
  | .res_3_A => .resReg 3 .a
  | .res_4_B => .resReg 4 .b
  | .res_4_C => .resReg 4 .c
  | .res_4_D => .resReg 4 .d
  | .res_4_E => .resReg 4 .e
  | .res_4_H => .resReg 4 .h
  | .res_4_L => .resReg 4 .l
  | .res_4_mHL => .resHL 4
  | .res_4_A => .resReg 4 .a
  | .res_5_B => .resReg 5 .b
  | .res_5_C => .resReg 5 .c
  | .res_5_D => .resReg 5 .d
  | .res_5_E => .resReg 5 .e
  | .res_5_H => .resReg 5 .h
  | .res_5_L => .resReg 5 .l
  | .res_5_mHL => .resHL 5
  | .res_5_A => .resReg 5 .a
  | .res_6_B => .resReg 6 .b
  | .res_6_C => .resReg 6 .c
  | .res_6_D => .resReg 6 .d
  | .res_6_E => .resReg 6 .e
  | .res_6_H => .resReg 6 .h
  | .res_6_L => .resReg 6 .l
  | .res_6_mHL => .resHL 6
  | .res_6_A => .resReg 6 .a
  | .res_7_B => .resReg 7 .b
  | .res_7_C => .resReg 7 .c
  | .res_7_D => .resReg 7 .d
  | .res_7_E => .resReg 7 .e
  | .res_7_H => .resReg 7 .h
  | .res_7_L => .resReg 7 .l
  | .res_7_mHL => .resHL 7
  | .res_7_A => .resReg 7 .a
  | .set_0_B => .setReg 0 .b
  | .set_0_C => .setReg 0 .c
  | .set_0_D => .setReg 0 .d
  | .set_0_E => .setReg 0 .e
  | .set_0_H => .setReg 0 .h
  | .set_0_L => .setReg 0 .l
  | .set_0_mHL => .setHL 0
  | .set_0_A => .setReg 0 .a
  | .set_1_B => .setReg 1 .b
  | .set_1_C => .setReg 1 .c
  | .set_1_D => .setReg 1 .d
  | .set_1_E => .setReg 1 .e
  | .set_1_H => .setReg 1 .h
  | .set_1_L => .setReg 1 .l
  | .set_1_mHL => .setHL 1
  | .set_1_A => .setReg 1 .a
  | .set_2_B => .setReg 2 .b
  | .set_2_C => .setReg 2 .c
  | .set_2_D => .setReg 2 .d
  | .set_2_E => .setReg 2 .e
  | .set_2_H => .setReg 2 .h
  | .set_2_L => .setReg 2 .l
  | .set_2_mHL => .setHL 2
  | .set_2_A => .setReg 2 .a
  | .set_3_B => .setReg 3 .b
  | .set_3_C => .setReg 3 .c
  | .set_3_D => .setReg 3 .d
  | .set_3_E => .setReg 3 .e
  | .set_3_H => .setReg 3 .h
  | .set_3_L => .setReg 3 .l
  | .set_3_mHL => .setHL 3
  | .set_3_A => .setReg 3 .a
  | .set_4_B => .setReg 4 .b
  | .set_4_C => .setReg 4 .c
  | .set_4_D => .setReg 4 .d
  | .set_4_E => .setReg 4 .e
  | .set_4_H => .setReg 4 .h
  | .set_4_L => .setReg 4 .l
  | .set_4_mHL => .setHL 4
  | .set_4_A => .setReg 4 .a
  | .set_5_B => .setReg 5 .b
  | .set_5_C => .setReg 5 .c
  | .set_5_D => .setReg 5 .d
  | .set_5_E => .setReg 5 .e
  | .set_5_H => .setReg 5 .h
  | .set_5_L => .setReg 5 .l
  | .set_5_mHL => .setHL 5
  | .set_5_A => .setReg 5 .a
  | .set_6_B => .setReg 6 .b
  | .set_6_C => .setReg 6 .c
  | .set_6_D => .setReg 6 .d
  | .set_6_E => .setReg 6 .e
  | .set_6_H => .setReg 6 .h
  | .set_6_L => .setReg 6 .l
  | .set_6_mHL => .setHL 6
  | .set_6_A => .setReg 6 .a
  | .set_7_B => .setReg 7 .b
  | .set_7_C => .setReg 7 .c
  | .set_7_D => .setReg 7 .d
  | .set_7_E => .setReg 7 .e
  | .set_7_H => .setReg 7 .h
  | .set_7_L => .setReg 7 .l
  | .set_7_mHL => .setHL 7
  | .set_7_A => .setReg 7 .a

/-! ## The meaning of each form that carries an operand field -/

theorem exec_mkLdReg (dst src : Reg8) (s : State) : exec (mkLdReg dst src) s = ldReg dst src s := by
  cases dst <;> cases src <;> rfl

theorem exec_mkLdImm (n : Byte) (dst : Reg8) (s : State) : exec (mkLdImm n dst) s = ldImm dst n s := by
  cases dst <;> rfl

theorem exec_mkLdFromHL (dst : Reg8) (s : State) : exec (mkLdFromHL dst) s = ldFromHL dst s := by
  cases dst <;> rfl

theorem exec_mkLdToHL (src : Reg8) (s : State) : exec (mkLdToHL src) s = ldToHL src s := by
  cases src <;> rfl

theorem exec_mkLdPair (v : Word) (p : Pair) (s : State) : exec (mkLdPair v p) s = ldPair p v s := by
  cases p <;> rfl

theorem exec_mkPush (q : StackPair) (s : State) : exec (mkPush q) s = push q s := by
  cases q <;> rfl

theorem exec_mkPop (q : StackPair) (s : State) : exec (mkPop q) s = pop q s := by
  cases q <;> rfl

theorem exec_mkAluReg (op : AluOp) (r : Reg8) (s : State) : exec (mkAluReg op r) s = aluReg op r s := by
  cases op <;> cases r <;> rfl

theorem exec_mkAluHL (op : AluOp) (s : State) : exec (mkAluHL op) s = aluHL op s := by
  cases op <;> rfl

theorem exec_mkAluImm (n : Byte) (op : AluOp) (s : State) : exec (mkAluImm n op) s = aluImm op n s := by
  cases op <;> rfl

theorem exec_mkInc (r : Reg8) (s : State) : exec (mkInc r) s = incReg r s := by
  cases r <;> rfl

theorem exec_mkDec (r : Reg8) (s : State) : exec (mkDec r) s = decReg r s := by
  cases r <;> rfl

theorem exec_mkAddHL (p : Pair) (s : State) : exec (mkAddHL p) s = addHL p s := by
  cases p <;> rfl

theorem exec_mkIncPair (p : Pair) (s : State) : exec (mkIncPair p) s = incPair p s := by
  cases p <;> rfl

theorem exec_mkDecPair (p : Pair) (s : State) : exec (mkDecPair p) s = decPair p s := by
  cases p <;> rfl

theorem exec_mkShiftReg (op : ShiftOp) (r : Reg8) (s : State) : exec (mkShiftReg op r) s = shiftReg op r s := by
  cases op <;> cases r <;> rfl

theorem exec_mkShiftHL (op : ShiftOp) (s : State) : exec (mkShiftHL op) s = shiftHL op s := by
  cases op <;> rfl

theorem exec_mkBitReg (b : Fin 8) (r : Reg8) (s : State) : exec (mkBitReg b r) s = bitReg b r s := by
  match b with
  | 0 | 1 | 2 | 3 | 4 | 5 | 6 | 7 => cases r <;> rfl

theorem exec_mkBitHL (b : Fin 8) (s : State) : exec (mkBitHL b) s = bitHL b s := by
  match b with
  | 0 | 1 | 2 | 3 | 4 | 5 | 6 | 7 => rfl

theorem exec_mkResReg (b : Fin 8) (r : Reg8) (s : State) : exec (mkResReg b r) s = resReg b r s := by
  match b with
  | 0 | 1 | 2 | 3 | 4 | 5 | 6 | 7 => cases r <;> rfl

theorem exec_mkResHL (b : Fin 8) (s : State) : exec (mkResHL b) s = resHL b s := by
  match b with
  | 0 | 1 | 2 | 3 | 4 | 5 | 6 | 7 => rfl

theorem exec_mkSetReg (b : Fin 8) (r : Reg8) (s : State) : exec (mkSetReg b r) s = setReg b r s := by
  match b with
  | 0 | 1 | 2 | 3 | 4 | 5 | 6 | 7 => cases r <;> rfl

theorem exec_mkSetHL (b : Fin 8) (s : State) : exec (mkSetHL b) s = setHL b s := by
  match b with
  | 0 | 1 | 2 | 3 | 4 | 5 | 6 | 7 => rfl

theorem exec_mkJpCond (v : Word) (cc : Cond) (s : State) : exec (mkJpCond v cc) s = jumpIf cc v s := by
  cases cc <;> rfl

theorem exec_mkJrCond (e : Byte) (cc : Cond) (s : State) : exec (mkJrCond e cc) s = jumpRelIf cc e s := by
  cases cc <;> rfl

theorem exec_mkCallCond (v : Word) (cc : Cond) (s : State) : exec (mkCallCond v cc) s = callIf cc v s := by
  cases cc <;> rfl

theorem exec_mkRetCond (cc : Cond) (s : State) : exec (mkRetCond cc) s = retIf cc s := by
  cases cc <;> rfl

theorem exec_mkRst (t : Fin 8) (s : State) : exec (mkRst t) s = restart t s := by
  match t with
  | 0 | 1 | 2 | 3 | 4 | 5 | 6 | 7 => rfl

end Sys2Proof.Machine
end

