-- ==== Sys2Proof/Laws/Flags.lean ====
section
/-! SUPPORT. The laws of the byte order helpers, of the register views (R42) and of the packed flags (R46, R47). -/

namespace Sys2Proof.Machine

/-! ## Bytes and words -/

@[simp] theorem hiByte_join (hi lo : Byte) : hiByte (join hi lo) = hi := by
  apply BitVec.eq_of_getLsbD_eq; intro i hi'; simp [hiByte, join, hi', show 8 + i < 16 by omega]

@[simp] theorem loByte_join (hi lo : Byte) : loByte (join hi lo) = lo := by
  apply BitVec.eq_of_getLsbD_eq; intro i hi'; simp [loByte, join, hi', show i < 16 by omega]

@[simp] theorem join_hiByte_loByte (v : Word) : join (hiByte v) (loByte v) = v := by
  apply BitVec.eq_of_getLsbD_eq; intro i hi
  simp only [join, hiByte, loByte, BitVec.getLsbD_or, BitVec.getLsbD_shiftLeft, BitVec.getLsbD_setWidth, BitVec.getLsbD_extractLsb']
  by_cases h : i < 8
  · simp [h, hi]
  · have : 8 + (i - 8) = i := by omega
    simp [h, hi, this, show i - 8 < 8 by omega, show i - 8 < 16 by omega]

/-! ## Registers and pairs -/

theorem State.reg_setReg (s : State) (r r' : Reg8) (v : Byte) : (s.setReg r v).reg r' = if r' = r then v else s.reg r' := by
  cases r <;> cases r' <;> rfl

@[simp] theorem State.reg_setReg_self (s : State) (r : Reg8) (v : Byte) : (s.setReg r v).reg r = v := by
  cases r <;> rfl

theorem State.reg_setReg_ne (s : State) {r r' : Reg8} (v : Byte) (h : r' ≠ r) : (s.setReg r v).reg r' = s.reg r' := by
  rw [State.reg_setReg, if_neg h]

@[simp] theorem State.pair_setPair_self (s : State) (p : Pair) (v : Word) : (s.setPair p v).pair p = v := by
  cases p <;> simp [State.setPair, State.pair, State.bc, State.de, State.hl]

theorem State.pair_setPair_ne (s : State) {p p' : Pair} (v : Word) (h : p' ≠ p) : (s.setPair p v).pair p' = s.pair p' := by
  cases p <;> cases p' <;> first | exact absurd rfl h | rfl

@[simp] theorem State.hl_setHL (s : State) (v : Word) : (s.setHL v).hl = v := by simp [State.hl]

/-! ## Flags -/

@[simp] theorem packFlags_z (z n h c : Bool) : (packFlags z n h c).getLsbD 7 = z := by cases z <;> cases n <;> cases h <;> cases c <;> rfl
@[simp] theorem packFlags_n (z n h c : Bool) : (packFlags z n h c).getLsbD 6 = n := by cases z <;> cases n <;> cases h <;> cases c <;> rfl
@[simp] theorem packFlags_h (z n h c : Bool) : (packFlags z n h c).getLsbD 5 = h := by cases z <;> cases n <;> cases h <;> cases c <;> rfl
@[simp] theorem packFlags_c (z n h c : Bool) : (packFlags z n h c).getLsbD 4 = c := by cases z <;> cases n <;> cases h <;> cases c <;> rfl

/-- The packed byte has bits 3 to 0 clear. -/
@[simp] theorem packFlags_low (z n h c : Bool) : packFlags z n h c &&& 0x0F#8 = 0#8 := by
  cases z <;> cases n <;> cases h <;> cases c <;> rfl

@[simp] theorem State.zf_setFlags (s : State) (z n h c : Bool) : (s.setFlags z n h c).zf = z := packFlags_z z n h c
@[simp] theorem State.nf_setFlags (s : State) (z n h c : Bool) : (s.setFlags z n h c).nf = n := packFlags_n z n h c
@[simp] theorem State.hf_setFlags (s : State) (z n h c : Bool) : (s.setFlags z n h c).hf = h := packFlags_h z n h c
@[simp] theorem State.cf_setFlags (s : State) (z n h c : Bool) : (s.setFlags z n h c).cf = c := packFlags_c z n h c

/-- The flags of an 8-bit result are written as four flags. -/
@[simp] theorem State.setResFlags_eq (s : State) (r : Res8) : s.setResFlags r = s.setFlags r.z r.n r.h r.c := rfl

/-- BIT writes F once, with N and H new only under `BIT_SETS_NH` (R331). -/
@[simp] theorem State.setBitFlags_eq (s : State) (b : Fin 8) (v : Byte) : s.setBitFlags b v =
    s.setFlags (!v.getLsbD b) (if s.cfg.bitSetsNH then false else s.nf) (if s.cfg.bitSetsNH then true else s.hf) s.cf := by
  unfold State.setBitFlags; split <;> simp_all

/-- A byte masked as every write of F masks it has bits 3 to 0 clear. -/
theorem and_F0_low (v : Byte) : v &&& 0xF0#8 &&& 0x0F#8 = 0#8 := by
  rw [BitVec.and_assoc]; exact BitVec.and_zero

/-! ## What leaves the registers alone -/

@[simp] theorem State.reg_withCycles (s : State) (n : Nat) (r : Reg8) : (s.withCycles n).reg r = s.reg r := by cases r <;> simp [State.reg]
@[simp] theorem State.reg_popSp (s : State) (r : Reg8) : (s.popSp).reg r = s.reg r := by cases r <;> simp [State.reg]
@[simp] theorem State.reg_setFlags (s : State) (z n h c : Bool) (r : Reg8) : (s.setFlags z n h c).reg r = s.reg r := by cases r <;> simp [State.reg]
@[simp] theorem State.reg_setF (s : State) (v : Byte) (r : Reg8) : (s.setF v).reg r = s.reg r := by cases r <;> simp [State.reg]
@[simp] theorem State.reg_storeCell (s : State) (x : Region) (off : Nat) (v : Byte) (r : Reg8) : (s.storeCell x off v).reg r = s.reg r := by cases r <;> simp [State.reg]
@[simp] theorem State.reg_writeByte (s : State) (addr : Word) (v : Byte) (r : Reg8) : (s.writeByte addr v).reg r = s.reg r := by cases r <;> simp [State.reg]
@[simp] theorem State.reg_writeWord (s : State) (addr v : Word) (r : Reg8) : (s.writeWord addr v).reg r = s.reg r := by cases r <;> simp [State.reg]
@[simp] theorem State.reg_push16 (s : State) (v : Word) (r : Reg8) : (s.push16 v).reg r = s.reg r := by cases r <;> simp [State.reg]
@[simp] theorem State.reg_raiseIllegal (s : State) (op : Byte) (r : Reg8) : (s.raiseIllegal op).reg r = s.reg r := by cases r <;> simp [State.reg]

end Sys2Proof.Machine
end

