-- ==== Sys2Proof/Laws/Effect.lean ====
section
/-! SUPPORT. What an instruction can do to the block, said once: it changes memory only by a list of byte writes, keeps the
host's state and the fault, and touches the control state only if it is one of the control instructions. A claim about
every instruction, or about every step, follows from `effect` without unfolding a meaning. -/

namespace Sys2Proof.Machine

/-- Writing bytes one after another. -/
def State.writeAll (s : State) : List (Word × Byte) → State
  | [] => s
  | w :: ws => (s.writeByte w.1 w.2).writeAll ws

/-- Memory, the host's state and the fault of `t` are those of `u`. -/
structure SameStore (u t : State) : Prop where
  mem : t.mem = u.mem
  rom1 : t.rom1 = u.rom1
  eram : t.eram = u.eram
  wram1 : t.wram1 = u.wram1
  dirty : t.eramDirty = u.eramDirty
  persistent : t.eramPersistent = u.eramPersistent
  loader : t.loader = u.loader
  cfg : t.cfg = u.cfg
  fault : t.fault = u.fault

/-- What the instruction `i` can do, from `s` to `t`, besides writing registers, flags, SP and PC. -/
structure Effect (i : Instr) (s t : State) : Prop where
  store : ∃ ws, SameStore (s.writeAll ws) t
  cycles : ∃ n, 4 ≤ n ∧ n ≤ 24 ∧ t.out = some (.ok n)
  low : s.f &&& 0x0F = 0 → t.f &&& 0x0F = 0
  mode : t.mode = s.mode ∨ (i = .halt ∧ t.mode = .halted) ∨ ((∃ n, i = .stop n) ∧ t.mode = .stopped)
  haltBug : t.haltBug = s.haltBug ∨ (i = .halt ∧ t.mode = s.mode)
  ime : i = .ei ∨ i = .di ∨ i = .reti ∨ (t.ime = s.ime ∧ t.imePending = s.imePending)

/-- The result is a next state with this effect. -/
def Does (i : Instr) (s : State) (r : Result) : Prop := ∃ t, r = .next t ∧ Effect i s t

theorem Does.of {i : Instr} {s t : State} {r : Result} {n : Nat} (hr : r = .next t) (ws : List (Word × Byte))
    (hs : SameStore (s.writeAll ws) t) (ho : t.out = some (.ok n)) (hn : (Nat.ble 4 n && Nat.ble n 24) = true)
    (hl : s.f &&& 0x0F = 0 → t.f &&& 0x0F = 0) (h1 : t.mode = s.mode) (h2 : t.haltBug = s.haltBug)
    (h3 : t.ime = s.ime ∧ t.imePending = s.imePending) : Does i s r := by
  simp only [Bool.and_eq_true] at hn
  exact ⟨t, hr, ⟨ws, hs⟩, ⟨n, Nat.le_of_ble_eq_true hn.1, Nat.le_of_ble_eq_true hn.2, ho⟩, hl, .inl h1, .inl h2,
    .inr (.inr (.inr h3))⟩

/-! ## The shared forms -/

variable (i : Instr) (s : State)

theorem does_retire (n : Nat) (hn : (Nat.ble 4 n && Nat.ble n 24) = true) : Does i s (s.retire n) := by
  exact .of rfl [] (by constructor <;> rfl) rfl hn (fun h => h) rfl rfl ⟨rfl, rfl⟩

theorem does_ldReg (dst src : Reg8) : Does i s (ldReg dst src s) := by
  exact .of rfl [] (by constructor <;> first | rfl | simp [State.writeAll]) rfl rfl (fun h => by simpa using h) (by simp) (by simp) ⟨by simp, by simp⟩

theorem does_ldImm (dst : Reg8) (n : Byte) : Does i s (ldImm dst n s) := by
  exact .of rfl [] (by constructor <;> first | rfl | simp [State.writeAll]) rfl rfl (fun h => by simpa using h) (by simp) (by simp) ⟨by simp, by simp⟩

theorem does_ldFromHL (dst : Reg8) : Does i s (ldFromHL dst s) := by
  exact .of rfl [] (by constructor <;> first | rfl | simp [State.writeAll]) rfl rfl (fun h => by simpa using h) (by simp) (by simp) ⟨by simp, by simp⟩

theorem does_ldToHL (r : Reg8) : Does i s (ldToHL r s) := by
  exact .of rfl [(s.hl, s.reg r)] (by constructor <;> rfl) rfl rfl (fun h => by simpa using h) (by simp) (by simp) ⟨by simp, by simp⟩

theorem does_ldImmToHL (n : Byte) : Does i s (ldImmToHL n s) := by
  exact .of rfl [(s.hl, n)] (by constructor <;> rfl) rfl rfl (fun h => by simpa using h) (by simp) (by simp) ⟨by simp, by simp⟩

theorem does_ldAFrom (a : Word) (n : Nat) (hn : (Nat.ble 4 n && Nat.ble n 24) = true) : Does i s (ldAFrom a n s) := by
  exact .of rfl [] (by constructor <;> rfl) rfl hn (fun h => h) rfl rfl ⟨rfl, rfl⟩

theorem does_ldATo (a : Word) (n : Nat) (hn : (Nat.ble 4 n && Nat.ble n 24) = true) : Does i s (ldATo a n s) := by
  exact .of rfl [(a, s.a)] (by constructor <;> rfl) rfl hn (fun h => by simpa using h) (by simp) (by simp) ⟨by simp, by simp⟩

theorem does_ldAFromHLThen (v : Word) : Does i s (ldAFromHLThen v s) := by
  exact .of rfl [] (by constructor <;> rfl) rfl rfl (fun h => by simpa using h) (by simp) (by simp) ⟨by simp, by simp⟩

theorem does_ldAToHLThen (v : Word) : Does i s (ldAToHLThen v s) := by
  exact .of rfl [(s.hl, s.a)] (by constructor <;> rfl) rfl rfl (fun h => by simpa using h) (by simp) (by simp) ⟨by simp, by simp⟩

theorem does_ldPair (p : Pair) (v : Word) : Does i s (ldPair p v s) := by
  exact .of rfl [] (by constructor <;> first | rfl | simp [State.writeAll]) rfl rfl (fun h => by simpa using h) (by simp) (by simp) ⟨by simp, by simp⟩

theorem does_ldSpTo (v : Word) : Does i s (ldSpTo v s) := by
  exact .of rfl [(v, loByte s.sp), (v + 1, hiByte s.sp)] (by constructor <;> rfl) rfl rfl (fun h => by simpa [State.writeWord] using h) (by simp) (by simp) ⟨by simp, by simp⟩

theorem does_ldSpHL : Does i s (ldSpHL s) := by
  exact .of rfl [] (by constructor <;> rfl) rfl rfl (fun h => h) rfl rfl ⟨rfl, rfl⟩

theorem does_ldHLSp (n : Byte) : Does i s (ldHLSp n s) := by
  exact .of rfl [] (by constructor <;> rfl) rfl rfl (fun _ => packFlags_low ..) (by simp) (by simp) ⟨by simp, by simp⟩

theorem does_push (q : StackPair) : Does i s (push q s) := by
  exact .of rfl [(s.sp - 1, hiByte (s.stackPair q)), (s.sp - 2, loByte (s.stackPair q))] (by constructor <;> rfl) rfl rfl (fun h => by simpa using h) (by simp) (by simp) ⟨by simp, by simp⟩

theorem does_pop (q : StackPair) : Does i s (pop q s) := by
  cases q
  case af => exact .of rfl [] (by constructor <;> rfl) rfl rfl (fun _ => and_F0_low (loByte s.popValue)) rfl rfl ⟨rfl, rfl⟩
  all_goals exact .of rfl [] (by constructor <;> rfl) rfl rfl (fun h => h) (by simp) (by simp) ⟨by simp, by simp⟩

theorem does_aluWith (op : AluOp) (v : Byte) (n : Nat) (hn : (Nat.ble 4 n && Nat.ble n 24) = true) : Does i s (aluWith op v n s) := by
  cases op <;> exact .of rfl [] (by constructor <;> rfl) rfl hn (fun _ => packFlags_low ..) rfl rfl ⟨rfl, rfl⟩

theorem does_incReg (r : Reg8) : Does i s (incReg r s) := by
  exact .of rfl [] (by constructor <;> first | rfl | simp [State.writeAll]) rfl rfl (fun _ => packFlags_low ..) (by simp) (by simp) ⟨by simp, by simp⟩

theorem does_incHL : Does i s (incHL s) := by
  exact .of rfl [(s.hl, (inc8 (s.readByte s.hl) s.cf).value)] (by constructor <;> rfl) rfl rfl (fun _ => packFlags_low ..) (by simp) (by simp) ⟨by simp, by simp⟩

theorem does_decReg (r : Reg8) : Does i s (decReg r s) := by
  exact .of rfl [] (by constructor <;> first | rfl | simp [State.writeAll]) rfl rfl (fun _ => packFlags_low ..) (by simp) (by simp) ⟨by simp, by simp⟩

theorem does_decHL : Does i s (decHL s) := by
  exact .of rfl [(s.hl, (dec8 (s.readByte s.hl) s.cf).value)] (by constructor <;> rfl) rfl rfl (fun _ => packFlags_low ..) (by simp) (by simp) ⟨by simp, by simp⟩

theorem does_addHL (p : Pair) : Does i s (addHL p s) := by
  exact .of rfl [] (by constructor <;> rfl) rfl rfl (fun _ => packFlags_low ..) (by simp) (by simp) ⟨by simp, by simp⟩

theorem does_incPair (p : Pair) : Does i s (incPair p s) := by
  exact .of rfl [] (by constructor <;> first | rfl | simp [State.writeAll]) rfl rfl (fun h => by simpa using h) (by simp) (by simp) ⟨by simp, by simp⟩

theorem does_decPair (p : Pair) : Does i s (decPair p s) := by
  exact .of rfl [] (by constructor <;> first | rfl | simp [State.writeAll]) rfl rfl (fun h => by simpa using h) (by simp) (by simp) ⟨by simp, by simp⟩

theorem does_addSp (n : Byte) : Does i s (addSp n s) := by
  exact .of rfl [] (by constructor <;> rfl) rfl rfl (fun _ => packFlags_low ..) rfl rfl ⟨rfl, rfl⟩

theorem does_rotateA (op : ShiftOp) : Does i s (rotateA op s) := by
  exact .of rfl [] (by constructor <;> rfl) rfl rfl (fun _ => packFlags_low ..) rfl rfl ⟨rfl, rfl⟩

theorem does_shiftReg (op : ShiftOp) (r : Reg8) : Does i s (shiftReg op r s) := by
  exact .of rfl [] (by constructor <;> first | rfl | simp [State.writeAll]) rfl rfl (fun _ => packFlags_low ..) (by simp) (by simp) ⟨by simp, by simp⟩

theorem does_shiftHL (op : ShiftOp) : Does i s (shiftHL op s) := by
  exact .of rfl [(s.hl, (shift op (s.readByte s.hl) s.cf).1)] (by constructor <;> rfl) rfl rfl (fun _ => packFlags_low ..) (by simp) (by simp) ⟨by simp, by simp⟩

theorem does_bitReg (b : Fin 8) (r : Reg8) : Does i s (bitReg b r s) := by
  simp only [bitReg, State.setBitFlags_eq]
  exact .of rfl [] (by constructor <;> rfl) rfl rfl (fun _ => packFlags_low ..) (by simp) (by simp) ⟨by simp, by simp⟩

theorem does_bitHL (b : Fin 8) : Does i s (bitHL b s) := by
  simp only [bitHL, State.setBitFlags_eq]
  exact .of rfl [] (by constructor <;> rfl) rfl rfl (fun _ => packFlags_low ..) (by simp) (by simp) ⟨by simp, by simp⟩

theorem does_resReg (b : Fin 8) (r : Reg8) : Does i s (resReg b r s) := by
  exact .of rfl [] (by constructor <;> first | rfl | simp [State.writeAll]) rfl rfl (fun h => by simpa using h) (by simp) (by simp) ⟨by simp, by simp⟩

theorem does_resHL (b : Fin 8) : Does i s (resHL b s) := by
  exact .of rfl [(s.hl, resetBit b (s.readByte s.hl))] (by constructor <;> rfl) rfl rfl (fun h => by simpa using h) (by simp) (by simp) ⟨by simp, by simp⟩

theorem does_setReg (b : Fin 8) (r : Reg8) : Does i s (setReg b r s) := by
  exact .of rfl [] (by constructor <;> first | rfl | simp [State.writeAll]) rfl rfl (fun h => by simpa using h) (by simp) (by simp) ⟨by simp, by simp⟩

theorem does_setHL (b : Fin 8) : Does i s (setHL b s) := by
  exact .of rfl [(s.hl, setBit b (s.readByte s.hl))] (by constructor <;> rfl) rfl rfl (fun h => by simpa using h) (by simp) (by simp) ⟨by simp, by simp⟩

theorem does_jump (v : Word) (n : Nat) (hn : (Nat.ble 4 n && Nat.ble n 24) = true) : Does i s (jump v n s) := by
  exact .of rfl [] (by constructor <;> rfl) rfl hn (fun h => h) rfl rfl ⟨rfl, rfl⟩

theorem does_call (v : Word) (n : Nat) (hn : (Nat.ble 4 n && Nat.ble n 24) = true) : Does i s (call v n s) := by
  exact .of rfl [(s.sp - 1, hiByte s.pc), (s.sp - 2, loByte s.pc)] (by constructor <;> rfl) rfl hn (fun h => by simpa using h) (by simp) (by simp) ⟨by simp, by simp⟩

theorem does_ret (n : Nat) (hn : (Nat.ble 4 n && Nat.ble n 24) = true) : Does i s (ret n s) := by
  exact .of rfl [] (by constructor <;> rfl) rfl hn (fun h => h) rfl rfl ⟨rfl, rfl⟩

theorem does_adjust : Does i s (adjust s) := by
  exact .of rfl [] (by constructor <;> rfl) rfl rfl (fun _ => packFlags_low ..) rfl rfl ⟨rfl, rfl⟩

theorem does_complement : Does i s (complement s) := by
  exact .of rfl [] (by constructor <;> rfl) rfl rfl (fun _ => packFlags_low ..) rfl rfl ⟨rfl, rfl⟩

theorem does_setCarry : Does i s (setCarry s) := by
  exact .of rfl [] (by constructor <;> rfl) rfl rfl (fun _ => packFlags_low ..) rfl rfl ⟨rfl, rfl⟩

theorem does_flipCarry : Does i s (flipCarry s) := by
  exact .of rfl [] (by constructor <;> rfl) rfl rfl (fun _ => packFlags_low ..) rfl rfl ⟨rfl, rfl⟩

/-- After the byte 0xCB: the forms of the extended table, at the state past its second byte. -/
theorem does_extendedOp (op2 : Byte) : Does i s (extendedOp op2 s) := by
  unfold extendedOp
  split
  · exact does_shiftReg ..
  · exact does_shiftHL ..
  · exact does_bitReg ..
  · exact does_bitHL ..
  · exact does_resReg ..
  · exact does_resHL ..
  · exact does_setReg ..
  · exact does_setHL ..

/-- Where PC is does not matter to a byte write. -/
theorem State.writeByte_atPc (pc a : Word) (v : Byte) : ({ s with pc } : State).writeByte a v = { s.writeByte a v with pc } := by
  show ({ s with pc } : State).writeLoc (s.resolve a) v = _
  unfold State.writeByte
  rcases s.resolve a with ⟨r, off⟩ | _
  · cases r <;> rfl
  · rfl

theorem State.writeAll_atPc (ws : List (Word × Byte)) (pc : Word) :
    ∃ pc', ({ s with pc } : State).writeAll ws = { s.writeAll ws with pc := pc' } := by
  induction ws generalizing s with
  | nil => exact ⟨pc, rfl⟩
  | cons w ws ih => simp only [State.writeAll, State.writeByte_atPc]; exact ih _

theorem does_extended : Does i s (extended s) := by
  obtain ⟨t, h, e⟩ := does_extendedOp i { s with pc := s.pc + 1 } (s.readByte s.pc)
  obtain ⟨ws, hs⟩ := e.store
  obtain ⟨pc', hpc⟩ := State.writeAll_atPc s ws (s.pc + 1)
  rw [hpc] at hs
  exact ⟨t, h, ⟨ws, hs.1, hs.2, hs.3, hs.4, hs.5, hs.6, hs.7, hs.8, hs.9⟩, e.cycles, e.low, e.mode, e.haltBug, e.ime⟩

/-! ## Every instruction -/

/-- Everything an instruction that is not an illegal opcode can do: it gives a next state with this effect. -/
theorem effect (hi : i.isIllegal = false) : Does i s (exec i s) := by
  generalize hr : exec i s = r
  have h := meaning s i
  rw [hr] at h
  clear hr
  cases h
  case illegal op h he => rw [h] at hi; cases hi
  case ldReg => exact does_ldReg ..
  case ldImm => exact does_ldImm ..
  case ldFromHL => exact does_ldFromHL ..
  case ldToHL => exact does_ldToHL ..
  case ldImmToHL => exact does_ldImmToHL ..
  case ldAFromBC => exact does_ldAFrom _ _ _ _ rfl
  case ldAFromDE => exact does_ldAFrom _ _ _ _ rfl
  case ldAFromAbs => exact does_ldAFrom _ _ _ _ rfl
  case ldAFromHigh => exact does_ldAFrom _ _ _ _ rfl
  case ldAFromHighC => exact does_ldAFrom _ _ _ _ rfl
  case ldAToBC => exact does_ldATo _ _ _ _ rfl
  case ldAToDE => exact does_ldATo _ _ _ _ rfl
  case ldAToAbs => exact does_ldATo _ _ _ _ rfl
  case ldAToHigh => exact does_ldATo _ _ _ _ rfl
  case ldAToHighC => exact does_ldATo _ _ _ _ rfl
  case ldAFromHLInc => exact does_ldAFromHLThen ..
  case ldAFromHLDec => exact does_ldAFromHLThen ..
  case ldAToHLInc => exact does_ldAToHLThen ..
  case ldAToHLDec => exact does_ldAToHLThen ..
  case ldPair => exact does_ldPair ..
  case ldSpTo => exact does_ldSpTo ..
  case ldSpHL => exact does_ldSpHL ..
  case ldHLSp => exact does_ldHLSp ..
  case push => exact does_push ..
  case pop => exact does_pop ..
  case aluReg => exact does_aluWith _ _ _ _ _ rfl
  case aluHL => exact does_aluWith _ _ _ _ _ rfl
  case aluImm => exact does_aluWith _ _ _ _ _ rfl
  case incReg => exact does_incReg ..
  case incHL => exact does_incHL ..
  case decReg => exact does_decReg ..
  case decHL => exact does_decHL ..
  case addHL => exact does_addHL ..
  case incPair => exact does_incPair ..
  case decPair => exact does_decPair ..
  case addSp => exact does_addSp ..
  case rlca => exact does_rotateA ..
  case rrca => exact does_rotateA ..
  case rla => exact does_rotateA ..
  case rra => exact does_rotateA ..
  case shiftReg => exact does_shiftReg ..
  case shiftHL => exact does_shiftHL ..
  case bitReg => exact does_bitReg ..
  case bitHL => exact does_bitHL ..
  case resReg => exact does_resReg ..
  case resHL => exact does_resHL ..
  case setReg => exact does_setReg ..
  case setHL => exact does_setHL ..
  case prefixCB => exact does_extended ..
  case jp => exact does_jump _ _ _ _ rfl
  case jpHL => exact does_jump _ _ _ _ rfl
  case jpCond => unfold jumpIf; split; exact does_jump _ _ _ _ rfl; exact does_retire _ _ _ rfl
  case jr => exact does_jump _ _ _ _ rfl
  case jrCond => unfold jumpRelIf; split; exact does_jump _ _ _ _ rfl; exact does_retire _ _ _ rfl
  case call => exact does_call _ _ _ _ rfl
  case callCond => unfold callIf; split; exact does_call _ _ _ _ rfl; exact does_retire _ _ _ rfl
  case ret => exact does_ret _ _ _ rfl
  case retCond => unfold retIf; split; exact does_ret _ _ _ rfl; exact does_retire _ _ _ rfl
  case rst => exact does_call _ _ _ _ rfl
  case nop => exact does_retire _ _ _ rfl
  case daa => exact does_adjust ..
  case cpl => exact does_complement ..
  case scf => exact does_setCarry ..
  case ccf => exact does_flipCarry ..
  case reti =>
    unfold reti State.returnFromInterrupt
    simp only
    split <;> exact ⟨_, rfl, ⟨[], rfl, rfl, rfl, rfl, rfl, rfl, rfl, rfl, rfl⟩, ⟨16, by decide, by decide, rfl⟩, fun h => h, .inl rfl, .inl rfl, .inr (.inr (.inl rfl))⟩
  case ei => exact ⟨_, rfl, ⟨[], rfl, rfl, rfl, rfl, rfl, rfl, rfl, rfl, rfl⟩, ⟨4, by decide, by decide, rfl⟩, fun h => h, .inl rfl, .inl rfl, .inl rfl⟩
  case di =>
    unfold disable
    split <;> exact ⟨_, rfl, ⟨[], rfl, rfl, rfl, rfl, rfl, rfl, rfl, rfl, rfl⟩, ⟨4, by decide, by decide, rfl⟩, fun h => h, .inl rfl, .inl rfl, .inr (.inl rfl)⟩
  case halt =>
    unfold halt
    split
    · exact ⟨_, rfl, ⟨[], rfl, rfl, rfl, rfl, rfl, rfl, rfl, rfl, rfl⟩, ⟨4, by decide, by decide, rfl⟩, fun h => h, .inl rfl, .inr ⟨rfl, rfl⟩, .inr (.inr (.inr ⟨rfl, rfl⟩))⟩
    · exact ⟨_, rfl, ⟨[], rfl, rfl, rfl, rfl, rfl, rfl, rfl, rfl, rfl⟩, ⟨4, by decide, by decide, rfl⟩, fun h => h, .inr (.inl ⟨rfl, rfl⟩), .inl rfl, .inr (.inr (.inr ⟨rfl, rfl⟩))⟩
  case stop n => exact ⟨_, rfl, ⟨[], rfl, rfl, rfl, rfl, rfl, rfl, rfl, rfl, rfl⟩, ⟨4, by decide, by decide, rfl⟩, fun h => h, .inr (.inr ⟨⟨n, rfl⟩, rfl⟩), .inl rfl, .inr (.inr (.inr ⟨rfl, rfl⟩))⟩

/-- What an illegal opcode does: the condition is raised with its byte, and nothing else changes (R421). -/
theorem effect_illegal (hi : i.isIllegal = true) : ∃ op, encode i = [op] ∧ exec i s = .next (s.raiseIllegal op) := by
  generalize hr : exec i s = r
  have h := meaning s i
  rw [hr] at h
  cases i <;> first | (cases hi; done) | exact ⟨_, rfl, hr.symm⟩

end Sys2Proof.Machine
end

