-- ==== Sys2Proof/Laws/Step.lean ====
section
/-! SUPPORT. What a step can do, said once (R140). -/

namespace Sys2Proof.Machine

/-- The block is idle at this step: Stopped, or Halted with no request (R140 lines 2 and 3). -/
def State.idles (s : State) : Bool := s.mode == .stopped || s.mode == .halted && s.req == 0

/-- Everything a step can do: refuse, repeat the fault, idle, enter an interrupt, or run the instruction at PC. -/
theorem step_eq (s : State) : step s =
    if s.loader.failed then .refused .loadFailed
    else if !s.loader.rom0 then .refused .notInitialised
    else match s.fault with
      | some t => .fault (.illegalOpcode t.opcode t.pc)
      | none =>
        if s.idles then .next s.idle
        else if s.interruptDue then .next s.interruptEntry
        else exec s.fetchInstr (s.issue s.fetchInstr) := by
  simp only [step, State.takeStep, State.idles, State.enterOrRun, State.runInstr]
  have hm : s.mode = .running ∨ s.mode = .halted ∨ s.mode = .stopped := by cases s.mode <;> simp
  rcases Option.eq_none_or_eq_some s.fault with hf | ⟨t, hf⟩ <;> rcases hm with hm | hm | hm <;> simp [hm, hf]

/-- What a step that gives a next state did. -/
theorem step_next {s t : State} (h : step s = .next t) :
    s.loader.failed = false ∧ s.loader.rom0 = true ∧ s.fault = none ∧
    ((s.idles = true ∧ t = s.idle) ∨
      (s.idles = false ∧ s.interruptDue = true ∧ t = s.interruptEntry) ∨
      (s.idles = false ∧ s.interruptDue = false ∧ exec s.fetchInstr (s.issue s.fetchInstr) = .next t)) := by
  rw [step_eq] at h
  split at h
  · cases h
  split at h
  · cases h
  split at h
  · cases h
  next h1 h2 _ h3 =>
    refine ⟨by simpa using h1, by simpa using h2, h3, ?_⟩
    split at h
    next h4 => injection h with h; exact .inl ⟨h4, h.symm⟩
    next h4 =>
      split at h
      next h5 => injection h with h; exact .inr (.inl ⟨by simpa using h4, h5, h.symm⟩)
      next h5 => exact .inr (.inr ⟨by simpa using h4, by simpa using h5, h⟩)

/-- An illegal opcode runs at the state before the step. -/
theorem State.issue_illegal (s : State) {i : Instr} (h : i.isIllegal = true) : s.issue i = s := by
  unfold State.issue; rw [if_pos h]

end Sys2Proof.Machine
end

