-- ==== Sys2Proof/Laws/Hang.lean ====
section
/-! SUPPORT. A hang never ends (70_reset_and_hazards.md R481): what each event of a run does to a Halted block, and what a step
does at a tight loop. -/

namespace Sys2Proof.Machine

variable {s : State}

/-- A step of a Halted block with no request changes nothing but what the step returned. -/
theorem State.apply_step_of_halted (hm : s.mode = .halted) (hr : s.req = 0) : s.apply .step = s ∨ s.apply .step = s.idle := by
  have hi : s.idles = true := by simp [State.idles, hm, hr]
  cases h : step s with
  | next t =>
    obtain ⟨-, -, -, ⟨-, rfl⟩ | ⟨hi', -⟩ | ⟨hi', -⟩⟩ := step_next h
    · exact .inr (by simp [State.apply, h])
    all_goals rw [hi] at hi'; cases hi'
  | fault r => exact .inl (by simp [State.apply, h])
  | refused r => exact .inl (by simp [State.apply, h])

/-- No move but `reset` takes a Halted block out of Halted. -/
theorem State.apply_move_of_halted (hm : s.mode = .halted) {m : HostMove} (hr : m ≠ .reset) :
    (s.apply (.move m)).mode = .halted := by
  cases m with
  | initFixedROM x =>
    simp only [State.apply, HostMove.apply, State.initFixedROM, State.loadError]
    by_cases h1 : (s.started || s.loader.rom0) = true <;> by_cases h2 : x.fits .rom0 = true <;> simp [h1, h2, HostReply.state?, hm]
  | initSwitchableROM c i b =>
    simp only [State.apply, HostMove.apply, State.initSwitchableROM, State.loadError]
    by_cases h1 : (s.started || s.loader.rom1) = true <;> cases h2 : checkBanks .rom1 c i b <;> simp [h1, HostReply.state?, hm]
  | initExternalRAM c i p b =>
    simp only [State.apply, HostMove.apply, State.initExternalRAM, State.loadError]
    by_cases h1 : (s.started || s.loader.eram) = true <;> cases h2 : checkBanks .eram c i b <;> simp [h1, HostReply.state?, hm]
  | setSwitchableROMBank i =>
    cases h : s.rom1.select i <;> simp [State.apply, HostMove.apply, State.setSwitchableROMBank, h, HostReply.state?, hm]
  | setSwitchableWRAMBank i =>
    cases h : s.wram1.select i <;> simp [State.apply, HostMove.apply, State.setSwitchableWRAMBank, h, HostReply.state?, hm]
  | setExternalRAMBank i =>
    cases h : s.eram.select i <;> simp [State.apply, HostMove.apply, State.setExternalRAMBank, h, HostReply.state?, hm]
  | reset => exact absurd rfl hr
  | wake => simp [State.apply, HostMove.apply, HostReply.state?, State.wake, hm]
  | sendInterrupt n => 
    cases h : decide (n ≤ 4) && s.envNamesBit addrIF n <;> simp [State.apply, HostMove.apply, State.sendInterrupt, h, HostReply.state?, hm]
  | envWrite a v =>
    simp only [State.apply, HostMove.apply, State.envWrite]
    split
    next h => split at h <;> cases h; simp [hm]
    next => exact hm
  | clearDirty => simp [State.apply, HostMove.apply, HostReply.state?, State.clearDirty, hm]

/-- A hang never ends: at every boundary of its run the block is Halted. -/
theorem State.hang_never_ends {run : Nat → RunEvent} (hm : s.mode = .halted) (hr : ∀ n, run n ≠ .move .reset)
    (hq : s.neverRequested run) (n : Nat) : (s.after run n).mode = .halted := by
  induction n with
  | zero => exact hm
  | succ n ih =>
    have hn := hr n
    simp only [State.after]
    generalize run n = e at hn
    cases e with
    | step => rcases State.apply_step_of_halted ih (hq n) with h | h <;> rw [h] <;> exact ih
    | move m => exact State.apply_move_of_halted ih fun h => hn (h ▸ rfl)

/-- A Halted block with no request stays so for as long as nothing but steps follows: such a run is a hang. -/
theorem State.halted_hangs_in_steps (hf : s.fault = none) (hm : s.mode = .halted) (hq : s.req = 0) :
    s.hangsIn fun _ => .step := by
  refine .inr (.inl ⟨hf, hm, nofun, fun n => ?_⟩)
  suffices h : (s.after (fun _ => .step) n).mode = .halted ∧ (s.after (fun _ => .step) n).req = 0 from h.2
  induction n with
  | zero => exact ⟨hm, hq⟩
  | succ n ih =>
    simp only [State.after]
    rcases State.apply_step_of_halted ih.1 ih.2 with h | h <;> rw [h] <;> exact ih

/-- No line enabled is no line requested and enabled: the first kind of hang is Halted with no request. -/
theorem State.req_of_hung (h : s.hung = true) : s.req = 0 := by
  simp only [State.hung, Bool.and_eq_true, beq_iff_eq] at h
  have h0 := h.2.2
  simp only [State.req]
  rw [BitVec.and_assoc, BitVec.and_comm (s.readByte addrIF), ← BitVec.and_assoc, h0]
  exact BitVec.zero_and

/-! ## The tight loop -/

/-- A step at a tight loop that nothing can interrupt applies the pending IME value and changes nothing else but what it returns. -/
theorem State.apply_step_at_tightLoop (hl : s.atTightLoop = true) (hq : s.noInterruptAhead = true) :
    s.apply .step = { s with ime := s.imePending.getD s.ime, imePending := none, out := some (.ok 12) } := by
  simp only [State.atTightLoop, State.goesOn, Bool.and_eq_true, beq_iff_eq, Bool.not_eq_true'] at hl
  obtain ⟨⟨h0, h1, h2, -⟩, hm, hb, hi⟩ := hl
  have hd : s.interruptDue = false := by
    simp only [State.noInterruptAhead, Bool.or_eq_true, Bool.and_eq_true, beq_iff_eq, Bool.not_eq_true'] at hq
    rcases hq with h | h | h <;> simp [State.interruptDue, h]
  have hs : step s = exec (.jr_s8 0xFE) (s.issue (.jr_s8 0xFE)) := by
    rw [step_eq, ← hi]; simp [h0, h1, h2, State.idles, hm, hd]
  have hp : s.pc + 1 + BitVec.ofNat 16 (Instr.length (.jr_s8 0xFE) - 1) + sext16 0xFE = s.pc := by
    rw [show BitVec.ofNat 16 (Instr.length (.jr_s8 0xFE) - 1) = 1 from rfl, show sext16 0xFE = 0xFFFE from rfl]; bv_omega
  have he : exec (.jr_s8 0xFE) (s.issue (.jr_s8 0xFE)) =
      .next { s with mode := .running, ime := s.imePending.getD s.ime, imePending := none, haltBug := false, out := some (.ok 12), pc := s.pc } := by
    rw [← hp]
    simp [exec, execJr_s8, jumpRel, jump, State.retire, State.withCycles, State.issue, State.operandPc, hb, Instr.isIllegal]
  rw [State.apply, hs, he, ← hm, ← hb]

/-- A tight loop reads only memory, the control fields and PC, so that the state its step leaves is one again. -/
theorem State.tightLoop_kept (hl : s.atTightLoop = true) (hq : s.noInterruptAhead = true) :
    (s.apply .step).atTightLoop = true ∧ (s.apply .step).noInterruptAhead = true := by
  rw [State.apply_step_at_tightLoop hl hq]
  refine ⟨hl, ?_⟩
  simp only [State.noInterruptAhead, Bool.or_eq_true] at hq ⊢
  rcases hq with h | h | h
  · exact .inl h
  · exact .inr (.inl h)
  · rcases hp : s.imePending with _ | _ | _ <;> simp_all

/-- A tight loop that nothing can interrupt is a hang. -/
theorem State.tightLoop_hangs (hl : s.atTightLoop = true) (hq : s.noInterruptAhead = true) : s.hangsIn fun _ => .step := by
  refine .inr (.inr ⟨nofun, fun n => ⟨n, Nat.le_refl n, rfl⟩, fun n => ?_⟩)
  suffices h : (s.after (fun _ => .step) n).atTightLoop = true ∧ (s.after (fun _ => .step) n).noInterruptAhead = true by
    have := h.1; simp only [State.atTightLoop, Bool.and_eq_true] at this; exact this.1
  induction n with
  | zero => exact ⟨hl, hq⟩
  | succ n ih =>
    exact State.tightLoop_kept ih.1 ih.2

end Sys2Proof.Machine
end

