-- ==== Sys2Proof/Tests/Slice0.lean ====
section
/-! SUPPORT. The model's own tests: the well-formedness check, the decoder against the opcode maps R153 and R154 cell by cell, one
step per instruction form against the vectors of 95_test_vectors.md section 2, and, for every statement that has hypotheses,
concrete states and operands that meet them. -/

namespace Sys2Proof.Tests

open Sys2Proof Sys2Proof.Machine Sys2Proof.Claims

/-! ## Small states -/

/-- The reset state with bytes at 0xC000, where PC is, and some bytes placed in memory besides. -/
def code (bytes : List Byte) (cells : List (Word × Byte)) : State :=
  cells.foldl (fun s cell => s.pokeBytes cell.1 [cell.2])
    { State.reset with pc := 0xC000, mem := Memory.ofBytes 0xC000 bytes }

/-- What a function says of the next state, if the result is one. -/
def after {α : Type} (r : Result) (f : State → α) : Option α :=
  match r with
  | .next t => some (f t)
  | .fault _ => none
  | .refused _ => none

/-! ## Well-formedness: the one ill-formed term is refused, and a whole instruction is not -/

theorem test_lone_prefix_is_ill_formed : Instr.wellFormed .prefixCB = false := by decide
theorem test_an_instruction_is_well_formed : Instr.wellFormed (.ld_BC_d16 0xFFFF) = true := by decide

/-! ## Decoding, cell by cell of the maps R153 and R154, with the operand bytes 0x34 and 0x12 -/

theorem test_decode_row_0x : [0x00, 0x01, 0x02, 0x03, 0x04, 0x05, 0x06, 0x07, 0x08, 0x09, 0x0A, 0x0B, 0x0C, 0x0D, 0x0E, 0x0F].map (fun op => decodeOp op 0x34 0x12) = [
    .nop, .ld_BC_d16 0x1234, .ld_mBC_A, .inc_BC, .inc_B, .dec_B, .ld_B_d8 0x34, .rlca, .ld_mA16_SP 0x1234, .add_HL_BC, .ld_A_mBC, .dec_BC,
    .inc_C, .dec_C, .ld_C_d8 0x34, .rrca] := by decide

theorem test_decode_row_1x : [0x10, 0x11, 0x12, 0x13, 0x14, 0x15, 0x16, 0x17, 0x18, 0x19, 0x1A, 0x1B, 0x1C, 0x1D, 0x1E, 0x1F].map (fun op => decodeOp op 0x34 0x12) = [
    .stop 0x34, .ld_DE_d16 0x1234, .ld_mDE_A, .inc_DE, .inc_D, .dec_D, .ld_D_d8 0x34, .rla, .jr_s8 0x34, .add_HL_DE, .ld_A_mDE, .dec_DE,
    .inc_E, .dec_E, .ld_E_d8 0x34, .rra] := by decide

theorem test_decode_row_2x : [0x20, 0x21, 0x22, 0x23, 0x24, 0x25, 0x26, 0x27, 0x28, 0x29, 0x2A, 0x2B, 0x2C, 0x2D, 0x2E, 0x2F].map (fun op => decodeOp op 0x34 0x12) = [
    .jr_NZ_s8 0x34, .ld_HL_d16 0x1234, .ld_mHLinc_A, .inc_HL, .inc_H, .dec_H, .ld_H_d8 0x34, .daa, .jr_Z_s8 0x34, .add_HL_HL, .ld_A_mHLinc,
    .dec_HL, .inc_L, .dec_L, .ld_L_d8 0x34, .cpl] := by decide

theorem test_decode_row_3x : [0x30, 0x31, 0x32, 0x33, 0x34, 0x35, 0x36, 0x37, 0x38, 0x39, 0x3A, 0x3B, 0x3C, 0x3D, 0x3E, 0x3F].map (fun op => decodeOp op 0x34 0x12) = [
    .jr_NC_s8 0x34, .ld_SP_d16 0x1234, .ld_mHLdec_A, .inc_SP, .inc_mHL, .dec_mHL, .ld_mHL_d8 0x34, .scf, .jr_C_s8 0x34, .add_HL_SP,
    .ld_A_mHLdec, .dec_SP, .inc_A, .dec_A, .ld_A_d8 0x34, .ccf] := by decide

theorem test_decode_row_4x : [0x40, 0x41, 0x42, 0x43, 0x44, 0x45, 0x46, 0x47, 0x48, 0x49, 0x4A, 0x4B, 0x4C, 0x4D, 0x4E, 0x4F].map (fun op => decodeOp op 0x34 0x12) = [
    .ld_B_B, .ld_B_C, .ld_B_D, .ld_B_E, .ld_B_H, .ld_B_L, .ld_B_mHL, .ld_B_A, .ld_C_B, .ld_C_C, .ld_C_D, .ld_C_E, .ld_C_H, .ld_C_L,
    .ld_C_mHL, .ld_C_A] := by decide

theorem test_decode_row_5x : [0x50, 0x51, 0x52, 0x53, 0x54, 0x55, 0x56, 0x57, 0x58, 0x59, 0x5A, 0x5B, 0x5C, 0x5D, 0x5E, 0x5F].map (fun op => decodeOp op 0x34 0x12) = [
    .ld_D_B, .ld_D_C, .ld_D_D, .ld_D_E, .ld_D_H, .ld_D_L, .ld_D_mHL, .ld_D_A, .ld_E_B, .ld_E_C, .ld_E_D, .ld_E_E, .ld_E_H, .ld_E_L,
    .ld_E_mHL, .ld_E_A] := by decide

theorem test_decode_row_6x : [0x60, 0x61, 0x62, 0x63, 0x64, 0x65, 0x66, 0x67, 0x68, 0x69, 0x6A, 0x6B, 0x6C, 0x6D, 0x6E, 0x6F].map (fun op => decodeOp op 0x34 0x12) = [
    .ld_H_B, .ld_H_C, .ld_H_D, .ld_H_E, .ld_H_H, .ld_H_L, .ld_H_mHL, .ld_H_A, .ld_L_B, .ld_L_C, .ld_L_D, .ld_L_E, .ld_L_H, .ld_L_L,
    .ld_L_mHL, .ld_L_A] := by decide

theorem test_decode_row_7x : [0x70, 0x71, 0x72, 0x73, 0x74, 0x75, 0x76, 0x77, 0x78, 0x79, 0x7A, 0x7B, 0x7C, 0x7D, 0x7E, 0x7F].map (fun op => decodeOp op 0x34 0x12) = [
    .ld_mHL_B, .ld_mHL_C, .ld_mHL_D, .ld_mHL_E, .ld_mHL_H, .ld_mHL_L, .halt, .ld_mHL_A, .ld_A_B, .ld_A_C, .ld_A_D, .ld_A_E, .ld_A_H,
    .ld_A_L, .ld_A_mHL, .ld_A_A] := by decide

theorem test_decode_row_8x : [0x80, 0x81, 0x82, 0x83, 0x84, 0x85, 0x86, 0x87, 0x88, 0x89, 0x8A, 0x8B, 0x8C, 0x8D, 0x8E, 0x8F].map (fun op => decodeOp op 0x34 0x12) = [
    .add_A_B, .add_A_C, .add_A_D, .add_A_E, .add_A_H, .add_A_L, .add_A_mHL, .add_A_A, .adc_A_B, .adc_A_C, .adc_A_D, .adc_A_E, .adc_A_H,
    .adc_A_L, .adc_A_mHL, .adc_A_A] := by decide

theorem test_decode_row_9x : [0x90, 0x91, 0x92, 0x93, 0x94, 0x95, 0x96, 0x97, 0x98, 0x99, 0x9A, 0x9B, 0x9C, 0x9D, 0x9E, 0x9F].map (fun op => decodeOp op 0x34 0x12) = [
    .sub_B, .sub_C, .sub_D, .sub_E, .sub_H, .sub_L, .sub_mHL, .sub_A, .sbc_A_B, .sbc_A_C, .sbc_A_D, .sbc_A_E, .sbc_A_H, .sbc_A_L,
    .sbc_A_mHL, .sbc_A_A] := by decide

theorem test_decode_row_Ax : [0xA0, 0xA1, 0xA2, 0xA3, 0xA4, 0xA5, 0xA6, 0xA7, 0xA8, 0xA9, 0xAA, 0xAB, 0xAC, 0xAD, 0xAE, 0xAF].map (fun op => decodeOp op 0x34 0x12) = [
    .and_B, .and_C, .and_D, .and_E, .and_H, .and_L, .and_mHL, .and_A, .xor_B, .xor_C, .xor_D, .xor_E, .xor_H, .xor_L, .xor_mHL, .xor_A] := by decide

theorem test_decode_row_Bx : [0xB0, 0xB1, 0xB2, 0xB3, 0xB4, 0xB5, 0xB6, 0xB7, 0xB8, 0xB9, 0xBA, 0xBB, 0xBC, 0xBD, 0xBE, 0xBF].map (fun op => decodeOp op 0x34 0x12) = [
    .or_B, .or_C, .or_D, .or_E, .or_H, .or_L, .or_mHL, .or_A, .cp_B, .cp_C, .cp_D, .cp_E, .cp_H, .cp_L, .cp_mHL, .cp_A] := by decide

theorem test_decode_row_Cx : [0xC0, 0xC1, 0xC2, 0xC3, 0xC4, 0xC5, 0xC6, 0xC7, 0xC8, 0xC9, 0xCA, 0xCC, 0xCD, 0xCE, 0xCF].map (fun op => decodeOp op 0x34 0x12) = [
    .ret_NZ, .pop_BC, .jp_NZ_a16 0x1234, .jp_a16 0x1234, .call_NZ_a16 0x1234, .push_BC, .add_A_d8 0x34, .rst_00, .ret_Z, .ret,
    .jp_Z_a16 0x1234, .call_Z_a16 0x1234, .call_a16 0x1234, .adc_A_d8 0x34, .rst_08] := by decide

theorem test_decode_row_Dx : [0xD0, 0xD1, 0xD2, 0xD3, 0xD4, 0xD5, 0xD6, 0xD7, 0xD8, 0xD9, 0xDA, 0xDB, 0xDC, 0xDD, 0xDE, 0xDF].map (fun op => decodeOp op 0x34 0x12) = [
    .ret_NC, .pop_DE, .jp_NC_a16 0x1234, .illegal_D3, .call_NC_a16 0x1234, .push_DE, .sub_d8 0x34, .rst_10, .ret_C, .reti,
    .jp_C_a16 0x1234, .illegal_DB, .call_C_a16 0x1234, .illegal_DD, .sbc_A_d8 0x34, .rst_18] := by decide

theorem test_decode_row_Ex : [0xE0, 0xE1, 0xE2, 0xE3, 0xE4, 0xE5, 0xE6, 0xE7, 0xE8, 0xE9, 0xEA, 0xEB, 0xEC, 0xED, 0xEE, 0xEF].map (fun op => decodeOp op 0x34 0x12) = [
    .ldh_mA8_A 0x34, .pop_HL, .ldh_mC_A, .illegal_E3, .illegal_E4, .push_HL, .and_d8 0x34, .rst_20, .add_SP_s8 0x34, .jp_HL,
    .ld_mA16_A 0x1234, .illegal_EB, .illegal_EC, .illegal_ED, .xor_d8 0x34, .rst_28] := by decide

theorem test_decode_row_Fx : [0xF0, 0xF1, 0xF2, 0xF3, 0xF4, 0xF5, 0xF6, 0xF7, 0xF8, 0xF9, 0xFA, 0xFB, 0xFC, 0xFD, 0xFE, 0xFF].map (fun op => decodeOp op 0x34 0x12) = [
    .ldh_A_mA8 0x34, .pop_AF, .ldh_A_mC, .di, .illegal_F4, .push_AF, .or_d8 0x34, .rst_30, .ld_HL_SPs8 0x34, .ld_SP_HL, .ld_A_mA16 0x1234,
    .ei, .illegal_FC, .illegal_FD, .cp_d8 0x34, .rst_38] := by decide

theorem test_decode_row_CB_0x : [0x00, 0x01, 0x02, 0x03, 0x04, 0x05, 0x06, 0x07, 0x08, 0x09, 0x0A, 0x0B, 0x0C, 0x0D, 0x0E, 0x0F].map (fun op2 => decodeOp 0xCB op2 0x12) = [
    .rlc_B, .rlc_C, .rlc_D, .rlc_E, .rlc_H, .rlc_L, .rlc_mHL, .rlc_A, .rrc_B, .rrc_C, .rrc_D, .rrc_E, .rrc_H, .rrc_L, .rrc_mHL, .rrc_A] := by decide

theorem test_decode_row_CB_1x : [0x10, 0x11, 0x12, 0x13, 0x14, 0x15, 0x16, 0x17, 0x18, 0x19, 0x1A, 0x1B, 0x1C, 0x1D, 0x1E, 0x1F].map (fun op2 => decodeOp 0xCB op2 0x12) = [
    .rl_B, .rl_C, .rl_D, .rl_E, .rl_H, .rl_L, .rl_mHL, .rl_A, .rr_B, .rr_C, .rr_D, .rr_E, .rr_H, .rr_L, .rr_mHL, .rr_A] := by decide

theorem test_decode_row_CB_2x : [0x20, 0x21, 0x22, 0x23, 0x24, 0x25, 0x26, 0x27, 0x28, 0x29, 0x2A, 0x2B, 0x2C, 0x2D, 0x2E, 0x2F].map (fun op2 => decodeOp 0xCB op2 0x12) = [
    .sla_B, .sla_C, .sla_D, .sla_E, .sla_H, .sla_L, .sla_mHL, .sla_A, .sra_B, .sra_C, .sra_D, .sra_E, .sra_H, .sra_L, .sra_mHL, .sra_A] := by decide

theorem test_decode_row_CB_3x : [0x30, 0x31, 0x32, 0x33, 0x34, 0x35, 0x36, 0x37, 0x38, 0x39, 0x3A, 0x3B, 0x3C, 0x3D, 0x3E, 0x3F].map (fun op2 => decodeOp 0xCB op2 0x12) = [
    .swap_B, .swap_C, .swap_D, .swap_E, .swap_H, .swap_L, .swap_mHL, .swap_A, .srl_B, .srl_C, .srl_D, .srl_E, .srl_H, .srl_L, .srl_mHL,
    .srl_A] := by decide

theorem test_decode_row_CB_4x : [0x40, 0x41, 0x42, 0x43, 0x44, 0x45, 0x46, 0x47, 0x48, 0x49, 0x4A, 0x4B, 0x4C, 0x4D, 0x4E, 0x4F].map (fun op2 => decodeOp 0xCB op2 0x12) = [
    .bit_0_B, .bit_0_C, .bit_0_D, .bit_0_E, .bit_0_H, .bit_0_L, .bit_0_mHL, .bit_0_A, .bit_1_B, .bit_1_C, .bit_1_D, .bit_1_E, .bit_1_H,
    .bit_1_L, .bit_1_mHL, .bit_1_A] := by decide

theorem test_decode_row_CB_5x : [0x50, 0x51, 0x52, 0x53, 0x54, 0x55, 0x56, 0x57, 0x58, 0x59, 0x5A, 0x5B, 0x5C, 0x5D, 0x5E, 0x5F].map (fun op2 => decodeOp 0xCB op2 0x12) = [
    .bit_2_B, .bit_2_C, .bit_2_D, .bit_2_E, .bit_2_H, .bit_2_L, .bit_2_mHL, .bit_2_A, .bit_3_B, .bit_3_C, .bit_3_D, .bit_3_E, .bit_3_H,
    .bit_3_L, .bit_3_mHL, .bit_3_A] := by decide

theorem test_decode_row_CB_6x : [0x60, 0x61, 0x62, 0x63, 0x64, 0x65, 0x66, 0x67, 0x68, 0x69, 0x6A, 0x6B, 0x6C, 0x6D, 0x6E, 0x6F].map (fun op2 => decodeOp 0xCB op2 0x12) = [
    .bit_4_B, .bit_4_C, .bit_4_D, .bit_4_E, .bit_4_H, .bit_4_L, .bit_4_mHL, .bit_4_A, .bit_5_B, .bit_5_C, .bit_5_D, .bit_5_E, .bit_5_H,
    .bit_5_L, .bit_5_mHL, .bit_5_A] := by decide

theorem test_decode_row_CB_7x : [0x70, 0x71, 0x72, 0x73, 0x74, 0x75, 0x76, 0x77, 0x78, 0x79, 0x7A, 0x7B, 0x7C, 0x7D, 0x7E, 0x7F].map (fun op2 => decodeOp 0xCB op2 0x12) = [
    .bit_6_B, .bit_6_C, .bit_6_D, .bit_6_E, .bit_6_H, .bit_6_L, .bit_6_mHL, .bit_6_A, .bit_7_B, .bit_7_C, .bit_7_D, .bit_7_E, .bit_7_H,
    .bit_7_L, .bit_7_mHL, .bit_7_A] := by decide

theorem test_decode_row_CB_8x : [0x80, 0x81, 0x82, 0x83, 0x84, 0x85, 0x86, 0x87, 0x88, 0x89, 0x8A, 0x8B, 0x8C, 0x8D, 0x8E, 0x8F].map (fun op2 => decodeOp 0xCB op2 0x12) = [
    .res_0_B, .res_0_C, .res_0_D, .res_0_E, .res_0_H, .res_0_L, .res_0_mHL, .res_0_A, .res_1_B, .res_1_C, .res_1_D, .res_1_E, .res_1_H,
    .res_1_L, .res_1_mHL, .res_1_A] := by decide

theorem test_decode_row_CB_9x : [0x90, 0x91, 0x92, 0x93, 0x94, 0x95, 0x96, 0x97, 0x98, 0x99, 0x9A, 0x9B, 0x9C, 0x9D, 0x9E, 0x9F].map (fun op2 => decodeOp 0xCB op2 0x12) = [
    .res_2_B, .res_2_C, .res_2_D, .res_2_E, .res_2_H, .res_2_L, .res_2_mHL, .res_2_A, .res_3_B, .res_3_C, .res_3_D, .res_3_E, .res_3_H,
    .res_3_L, .res_3_mHL, .res_3_A] := by decide

theorem test_decode_row_CB_Ax : [0xA0, 0xA1, 0xA2, 0xA3, 0xA4, 0xA5, 0xA6, 0xA7, 0xA8, 0xA9, 0xAA, 0xAB, 0xAC, 0xAD, 0xAE, 0xAF].map (fun op2 => decodeOp 0xCB op2 0x12) = [
    .res_4_B, .res_4_C, .res_4_D, .res_4_E, .res_4_H, .res_4_L, .res_4_mHL, .res_4_A, .res_5_B, .res_5_C, .res_5_D, .res_5_E, .res_5_H,
    .res_5_L, .res_5_mHL, .res_5_A] := by decide

theorem test_decode_row_CB_Bx : [0xB0, 0xB1, 0xB2, 0xB3, 0xB4, 0xB5, 0xB6, 0xB7, 0xB8, 0xB9, 0xBA, 0xBB, 0xBC, 0xBD, 0xBE, 0xBF].map (fun op2 => decodeOp 0xCB op2 0x12) = [
    .res_6_B, .res_6_C, .res_6_D, .res_6_E, .res_6_H, .res_6_L, .res_6_mHL, .res_6_A, .res_7_B, .res_7_C, .res_7_D, .res_7_E, .res_7_H,
    .res_7_L, .res_7_mHL, .res_7_A] := by decide

theorem test_decode_row_CB_Cx : [0xC0, 0xC1, 0xC2, 0xC3, 0xC4, 0xC5, 0xC6, 0xC7, 0xC8, 0xC9, 0xCA, 0xCB, 0xCC, 0xCD, 0xCE, 0xCF].map (fun op2 => decodeOp 0xCB op2 0x12) = [
    .set_0_B, .set_0_C, .set_0_D, .set_0_E, .set_0_H, .set_0_L, .set_0_mHL, .set_0_A, .set_1_B, .set_1_C, .set_1_D, .set_1_E, .set_1_H,
    .set_1_L, .set_1_mHL, .set_1_A] := by decide

theorem test_decode_row_CB_Dx : [0xD0, 0xD1, 0xD2, 0xD3, 0xD4, 0xD5, 0xD6, 0xD7, 0xD8, 0xD9, 0xDA, 0xDB, 0xDC, 0xDD, 0xDE, 0xDF].map (fun op2 => decodeOp 0xCB op2 0x12) = [
    .set_2_B, .set_2_C, .set_2_D, .set_2_E, .set_2_H, .set_2_L, .set_2_mHL, .set_2_A, .set_3_B, .set_3_C, .set_3_D, .set_3_E, .set_3_H,
    .set_3_L, .set_3_mHL, .set_3_A] := by decide

theorem test_decode_row_CB_Ex : [0xE0, 0xE1, 0xE2, 0xE3, 0xE4, 0xE5, 0xE6, 0xE7, 0xE8, 0xE9, 0xEA, 0xEB, 0xEC, 0xED, 0xEE, 0xEF].map (fun op2 => decodeOp 0xCB op2 0x12) = [
    .set_4_B, .set_4_C, .set_4_D, .set_4_E, .set_4_H, .set_4_L, .set_4_mHL, .set_4_A, .set_5_B, .set_5_C, .set_5_D, .set_5_E, .set_5_H,
    .set_5_L, .set_5_mHL, .set_5_A] := by decide

theorem test_decode_row_CB_Fx : [0xF0, 0xF1, 0xF2, 0xF3, 0xF4, 0xF5, 0xF6, 0xF7, 0xF8, 0xF9, 0xFA, 0xFB, 0xFC, 0xFD, 0xFE, 0xFF].map (fun op2 => decodeOp 0xCB op2 0x12) = [
    .set_6_B, .set_6_C, .set_6_D, .set_6_E, .set_6_H, .set_6_L, .set_6_mHL, .set_6_A, .set_7_B, .set_7_C, .set_7_D, .set_7_E, .set_7_H,
    .set_7_L, .set_7_mHL, .set_7_A] := by decide

/-! ## The host's numbering of words (bit 0 is the least significant bit of the first byte) -/

theorem test_table_word_ld_BC_d16 : decodeTableWord 8 0x01 = some (.ld_BC_d16 0) := by decide
theorem test_table_word_bit_7_H : decodeTableWord 16 0x7CCB = some .bit_7_H := by decide
theorem test_table_word_bit_7_H_high_first : decodeTableWord 16 0xCB7C = some .bit_7_H := by decide
theorem test_table_word_prefix : decodeTableWord 8 0xCB = some .prefixCB := by decide
theorem test_placed_word_runs : after (step (State.reset.withFetchWord 8 0x3C)) (fun t => (t.a, t.pc)) = some (0x02, 0x0101) := by decide
theorem test_truncated_word_is_rejected : (decode [0x01, 0x34] matches .error .truncated) = true := by decide

/-! ## One step, with its expected end state from 95_test_vectors.md -/

theorem test_ld_b_c : after (step ({ code [0x41] [] with c := 0x5A }))
    (fun t => (t.b, t.c, t.pc, t.f, t.out)) = some (0x5A, 0x5A, 0xC001, 0x80, some (.ok 4)) := by decide

theorem test_ld_mhl_a : after (step ({ code [0x77] [] with a := 0x99, h := 0xC1, l := 0x23 }))
    (fun t => (t.readByte 0xC123, t.pc, t.out)) = some (0x99, 0xC001, some (.ok 8)) := by decide

theorem test_ld_h_mhl_overwrites_the_address_register : after (step ({ code [0x66] [(0xC123, 0x7E)] with h := 0xC1, l := 0x23 }))
    (fun t => (t.h, t.l, t.hl, t.out)) = some (0x7E, 0x23, 0x7E23, some (.ok 8)) := by decide

theorem test_ld_a_d8_immediate_advances_pc : after (step (code [0x3E, 0xA5] []))
    (fun t => (t.a, t.pc, t.out)) = some (0xA5, 0xC002, some (.ok 8)) := by decide

theorem test_ld_mhl_d8 : after (step ({ code [0x36, 0x42] [] with h := 0xC2, l := 0x00 }))
    (fun t => (t.readByte 0xC200, t.pc, t.out)) = some (0x42, 0xC002, some (.ok 12)) := by decide

theorem test_ld_mhl_d8_to_rom_is_dropped : after (step ({ code [0x36, 0x42] [] with h := 0x20, l := 0x00 }))
    (fun t => (t.readByte 0x2000, t.pc, t.out)) = some (0x00, 0xC002, some (.ok 12)) := by decide

theorem test_ld_a_hlinc_wraps_hl_from_0xffff_reads_ie : after (step ({ code [0x2A] [(0xFFFF, 0x1F)] with h := 0xFF, l := 0xFF }))
    (fun t => (t.a, t.hl, t.out)) = some (0x1F, 0x0000, some (.ok 8)) := by decide

theorem test_ld_hldec_a_at_0x0000_is_dropped_hl_wraps : after (step ({ code [0x32] [] with h := 0x00, l := 0x00, a := 0x11 }))
    (fun t => (t.readByte 0x0000, t.hl, t.out)) = some (0x00, 0xFFFF, some (.ok 8)) := by decide

theorem test_ld_hlinc_a : after (step ({ code [0x22] [] with h := 0xC0, l := 0xFF, a := 0x77 }))
    (fun t => (t.readByte 0xC0FF, t.hl, t.out)) = some (0x77, 0xC100, some (.ok 8)) := by decide

theorem test_ld_a_mbc : after (step ({ code [0x0A] [(0xC010, 0x3C)] with b := 0xC0, c := 0x10 }))
    (fun t => (t.a, t.out)) = some (0x3C, some (.ok 8)) := by decide

theorem test_ld_mde_a : after (step ({ code [0x12] [] with d := 0xD0, e := 0x00, a := 0x5E }))
    (fun t => (t.readByte 0xD000, t.out)) = some (0x5E, some (.ok 8)) := by decide

theorem test_ldh_ma8_a : after (step ({ code [0xE0, 0xFF] [] with a := 0x04 }))
    (fun t => (t.readByte 0xFFFF, t.pc, t.out)) = some (0x04, 0xC002, some (.ok 12)) := by decide

theorem test_ldh_a_ma8_from_hram : after (step (code [0xF0, 0x90] [(0xFF90, 0x6B)]))
    (fun t => (t.a, t.pc, t.out)) = some (0x6B, 0xC002, some (.ok 12)) := by decide

theorem test_ldh_mc_a : after (step ({ code [0xE2] [] with c := 0x81, a := 0xAB }))
    (fun t => (t.readByte 0xFF81, t.pc, t.out)) = some (0xAB, 0xC001, some (.ok 8)) := by decide

theorem test_ldh_a_mc : after (step ({ code [0xF2] [(0xFF0F, 0x05)] with c := 0x0F }))
    (fun t => (t.a, t.out)) = some (0x05, some (.ok 8)) := by decide

theorem test_ld_a_ma16_little_endian_address : after (step (code [0xFA, 0x34, 0xC2] [(0xC234, 0x9C)]))
    (fun t => (t.a, t.pc, t.out)) = some (0x9C, 0xC003, some (.ok 16)) := by decide

theorem test_ld_ma16_a : after (step ({ code [0xEA, 0x00, 0xD0] [] with a := 0x1F }))
    (fun t => (t.readByte 0xD000, t.pc, t.out)) = some (0x1F, 0xC003, some (.ok 16)) := by decide

theorem test_ld_rr_d16_ld_sp_d16 : after (step (code [0x31, 0xFE, 0xDF] []))
    (fun t => (t.sp, t.pc, t.out)) = some (0xDFFE, 0xC003, some (.ok 12)) := by decide

theorem test_ld_ma16_sp : after (step ({ code [0x08, 0x00, 0xC1] [] with sp := 0xFFF8 }))
    (fun t => (t.readByte 0xC100, t.readByte 0xC101, t.pc, t.out)) = some (0xF8, 0xFF, 0xC003, some (.ok 20)) := by decide

theorem test_ld_sp_hl : after (step ({ code [0xF9] [] with h := 0xD0, l := 0x0D }))
    (fun t => (t.sp, t.out)) = some (0xD00D, some (.ok 8)) := by decide

theorem test_ld_hl_spps8_positive : after (step ({ code [0xF8, 0x02] [] with sp := 0xFFF8 }))
    (fun t => (t.hl, t.f, t.sp, t.out)) = some (0xFFFA, 0x00, 0xFFF8, some (.ok 12)) := by decide

theorem test_ld_hl_spps8_negative_carries_from_low_byte : after (step ({ code [0xF8, 0xFE] [] with sp := 0x0005 }))
    (fun t => (t.hl, t.f, t.out)) = some (0x0003, 0x30, some (.ok 12)) := by decide

theorem test_push_bc : after (step ({ code [0xC5] [] with sp := 0xDFFE, b := 0xAB, c := 0xCD }))
    (fun t => (t.sp, t.readByte 0xDFFD, t.readByte 0xDFFC, t.out)) = some (0xDFFC, 0xAB, 0xCD, some (.ok 16)) := by decide

theorem test_pop_de : after (step ({ code [0xD1] [(0xDFFC, 0xCD), (0xDFFD, 0xAB)] with sp := 0xDFFC }))
    (fun t => (t.de, t.sp, t.out)) = some (0xABCD, 0xDFFE, some (.ok 12)) := by decide

theorem test_push_at_sp_0x0001_high_byte_to_rom_dropped_low_to_0xffff : after (step ({ code [0xE5] [] with sp := 0x0001, h := 0x56, l := 0x78 }))
    (fun t => (t.sp, t.readByte 0xFFFF, t.out)) = some (0xFFFF, 0x78, some (.ok 16)) := by decide

theorem test_pop_at_sp_0xffff_reads_ie_then_0x0000 : after (step ({ code [0xC1] [(0x0000, 0x77), (0xFFFF, 0x1A)] with sp := 0xFFFF }))
    (fun t => (t.bc, t.sp, t.out)) = some (0x771A, 0x0001, some (.ok 12)) := by decide

theorem test_add_a_b_zero_half_and_full_carry : after (step ({ code [0x80] [] with a := 0x3A, b := 0xC6 }))
    (fun t => (t.a, t.f, t.out)) = some (0x00, 0xB0, some (.ok 4)) := by decide

theorem test_add_a_mhl : after (step ({ code [0x86] [(0xC100, 0x12)] with a := 0x3C, h := 0xC1, l := 0x00 }))
    (fun t => (t.a, t.f, t.out)) = some (0x4E, 0x00, some (.ok 8)) := by decide

theorem test_add_a_d8_half_carry_only : after (step ({ code [0xC6, 0x01] [] with a := 0x0F }))
    (fun t => (t.a, t.f, t.pc, t.out)) = some (0x10, 0x20, 0xC002, some (.ok 8)) := by decide

theorem test_adc_a_d8_with_carry_in : after (step ({ code [0xCE, 0x0F] [] with a := 0xE1, f := 0x10 }))
    (fun t => (t.a, t.f, t.out)) = some (0xF1, 0x20, some (.ok 8)) := by decide

theorem test_adc_a_b_carry_in_alone_overflows : after (step ({ code [0x88] [] with a := 0xFF, b := 0x00, f := 0x10 }))
    (fun t => (t.a, t.f, t.out)) = some (0x00, 0xB0, some (.ok 4)) := by decide

theorem test_adc_a_d8_0x0f_p_0xff_p_1 : after (step ({ code [0xCE, 0xFF] [] with a := 0x0F, f := 0x10 }))
    (fun t => (t.a, t.f, t.out)) = some (0x0F, 0x30, some (.ok 8)) := by decide

theorem test_sub_b_equal_operands : after (step ({ code [0x90] [] with a := 0x3E, b := 0x3E }))
    (fun t => (t.a, t.f, t.out)) = some (0x00, 0xC0, some (.ok 4)) := by decide

theorem test_sub_d8_borrow_from_both_nibbles : after (step ({ code [0xD6, 0x21] [] with a := 0x10, f := 0x00 }))
    (fun t => (t.a, t.f, t.out)) = some (0xEF, 0x70, some (.ok 8)) := by decide

theorem test_sbc_a_h_with_borrow_in : after (step ({ code [0x9C] [] with a := 0x3B, h := 0x2A, f := 0x10 }))
    (fun t => (t.a, t.f, t.out)) = some (0x10, 0x40, some (.ok 4)) := by decide

theorem test_sbc_a_d8_0x00_0xff_1 : after (step ({ code [0xDE, 0xFF] [] with a := 0x00, f := 0x10 }))
    (fun t => (t.a, t.f, t.out)) = some (0x00, 0xF0, some (.ok 8)) := by decide

theorem test_sbc_a_a_with_carry : after (step ({ code [0x9F] [] with a := 0x55, f := 0x10 }))
    (fun t => (t.a, t.f, t.out)) = some (0xFF, 0x70, some (.ok 4)) := by decide

theorem test_and_d8_h_always_1 : after (step ({ code [0xE6, 0xA5] [] with a := 0x5A, f := 0x10 }))
    (fun t => (t.a, t.f, t.out)) = some (0x00, 0xA0, some (.ok 8)) := by decide

theorem test_and_a_mhl : after (step ({ code [0xA6] [(0xC100, 0x3C)] with a := 0xF0, h := 0xC1, l := 0x00 }))
    (fun t => (t.a, t.f, t.out)) = some (0x30, 0x20, some (.ok 8)) := by decide

theorem test_xor_a_clears_a : after (step ({ code [0xAF] [] with a := 0x9C, f := 0x70 }))
    (fun t => (t.a, t.f, t.out)) = some (0x00, 0x80, some (.ok 4)) := by decide

theorem test_or_c : after (step ({ code [0xB1] [] with a := 0x00, c := 0x00, f := 0x70 }))
    (fun t => (t.a, t.f, t.out)) = some (0x00, 0x80, some (.ok 4)) := by decide

theorem test_or_d8 : after (step ({ code [0xF6, 0x03] [] with a := 0x5A }))
    (fun t => (t.a, t.f, t.out)) = some (0x5B, 0x00, some (.ok 8)) := by decide

theorem test_cp_d8_a_unchanged_less : after (step ({ code [0xFE, 0x40] [] with a := 0x3C }))
    (fun t => (t.a, t.f, t.out)) = some (0x3C, 0x50, some (.ok 8)) := by decide

theorem test_cp_b_equal : after (step ({ code [0xB8] [] with a := 0x3C, b := 0x3C }))
    (fun t => (t.a, t.f, t.out)) = some (0x3C, 0xC0, some (.ok 4)) := by decide

theorem test_cp_mhl : after (step ({ code [0xBE] [(0xC100, 0x2F)] with a := 0x3C, h := 0xC1, l := 0x00 }))
    (fun t => (t.a, t.f, t.out)) = some (0x3C, 0x60, some (.ok 8)) := by decide

theorem test_inc_a_from_0xff_keeps_c : after (step ({ code [0x3C] [] with a := 0xFF, f := 0x00 }))
    (fun t => (t.a, t.f, t.out)) = some (0x00, 0xA0, some (.ok 4)) := by decide

theorem test_inc_mhl : after (step ({ code [0x34] [(0xC100, 0x50)] with h := 0xC1, l := 0x00, f := 0x00 }))
    (fun t => (t.readByte 0xC100, t.f, t.out)) = some (0x51, 0x00, some (.ok 12)) := by decide

theorem test_inc_mhl_on_rom_flags_from_the_byte_write_dropped : after (step ({ code [0x34] [(0x0000, 0xFF)] with h := 0x00, l := 0x00, f := 0x00 }))
    (fun t => (t.readByte 0x0000, t.f, t.out)) = some (0xFF, 0xA0, some (.ok 12)) := by decide

theorem test_dec_l_to_zero : after (step ({ code [0x2D] [] with l := 0x01, f := 0x00 }))
    (fun t => (t.l, t.f, t.out)) = some (0x00, 0xC0, some (.ok 4)) := by decide

theorem test_dec_mhl_0x10_borrows_from_bit_4 : after (step ({ code [0x35] [(0xC100, 0x10)] with h := 0xC1, l := 0x00, f := 0x10 }))
    (fun t => (t.readByte 0xC100, t.f, t.out)) = some (0x0F, 0x70, some (.ok 12)) := by decide

theorem test_add_hl_bc_bit_11_carry : after (step ({ code [0x09] [] with h := 0x8A, l := 0x23, b := 0x06, c := 0x05, f := 0x80 }))
    (fun t => (t.hl, t.f, t.out)) = some (0x9028, 0xA0, some (.ok 8)) := by decide

theorem test_inc_de : after (step ({ code [0x13] [] with d := 0x23, e := 0x5F, f := 0x00 }))
    (fun t => (t.de, t.f, t.out)) = some (0x2360, 0x00, some (.ok 8)) := by decide

theorem test_dec_bc_wraps : after (step ({ code [0x0B] [] with b := 0x00, c := 0x00, f := 0xF0 }))
    (fun t => (t.bc, t.f, t.out)) = some (0xFFFF, 0xF0, some (.ok 8)) := by decide

theorem test_add_sp_s8_positive : after (step ({ code [0xE8, 0x02] [] with sp := 0xFFF8 }))
    (fun t => (t.sp, t.f, t.out)) = some (0xFFFA, 0x00, some (.ok 16)) := by decide

theorem test_add_sp_s8_neg1_sets_h_and_c : after (step ({ code [0xE8, 0xFF] [] with sp := 0x0001, f := 0x80 }))
    (fun t => (t.sp, t.f, t.out)) = some (0x0000, 0x30, some (.ok 16)) := by decide

theorem test_add_sp_s8_neg128 : after (step ({ code [0xE8, 0x80] [] with sp := 0x0100 }))
    (fun t => (t.sp, t.f, t.out)) = some (0x0080, 0x00, some (.ok 16)) := by decide

theorem test_rlca : after (step ({ code [0x07] [] with a := 0x85, f := 0x00 }))
    (fun t => (t.a, t.f, t.out)) = some (0x0B, 0x10, some (.ok 4)) := by decide

theorem test_rlca_of_0_leaves_z_0 : after (step ({ code [0x07] [] with a := 0x00, f := 0x80 }))
    (fun t => (t.a, t.f, t.out)) = some (0x00, 0x00, some (.ok 4)) := by decide

theorem test_rrca : after (step ({ code [0x0F] [] with a := 0x3B, f := 0x00 }))
    (fun t => (t.a, t.f, t.out)) = some (0x9D, 0x10, some (.ok 4)) := by decide

theorem test_rla_through_carry : after (step ({ code [0x17] [] with a := 0x95, f := 0x10 }))
    (fun t => (t.a, t.f, t.out)) = some (0x2B, 0x10, some (.ok 4)) := by decide

theorem test_rra : after (step ({ code [0x1F] [] with a := 0x81, f := 0x00 }))
    (fun t => (t.a, t.f, t.out)) = some (0x40, 0x10, some (.ok 4)) := by decide

theorem test_rlc_b : after (step ({ code [0xCB, 0x00] [] with b := 0x85, f := 0x00 }))
    (fun t => (t.b, t.f, t.pc, t.out)) = some (0x0B, 0x10, 0xC002, some (.ok 8)) := by decide

theorem test_rrc_c : after (step ({ code [0xCB, 0x09] [] with c := 0x01, f := 0x00 }))
    (fun t => (t.c, t.f, t.out)) = some (0x80, 0x10, some (.ok 8)) := by decide

theorem test_rl_mhl : after (step ({ code [0xCB, 0x16] [(0xC100, 0x80)] with h := 0xC1, l := 0x00, f := 0x00 }))
    (fun t => (t.readByte 0xC100, t.f, t.out)) = some (0x00, 0x90, some (.ok 16)) := by decide

theorem test_rr_d_through_carry : after (step ({ code [0xCB, 0x1A] [] with d := 0x01, f := 0x10 }))
    (fun t => (t.d, t.f, t.out)) = some (0x80, 0x10, some (.ok 8)) := by decide

theorem test_sla_e : after (step ({ code [0xCB, 0x23] [] with e := 0xC1, f := 0x00 }))
    (fun t => (t.e, t.f, t.out)) = some (0x82, 0x10, some (.ok 8)) := by decide

theorem test_sra_h_keeps_the_sign_bit : after (step ({ code [0xCB, 0x2C] [] with h := 0x81, f := 0x00 }))
    (fun t => (t.h, t.f, t.out)) = some (0xC0, 0x10, some (.ok 8)) := by decide

theorem test_swap_a : after (step ({ code [0xCB, 0x37] [] with a := 0xF1, f := 0x10 }))
    (fun t => (t.a, t.f, t.out)) = some (0x1F, 0x00, some (.ok 8)) := by decide

theorem test_srl_l_clears_bit_7 : after (step ({ code [0xCB, 0x3D] [] with l := 0x01, f := 0x00 }))
    (fun t => (t.l, t.f, t.out)) = some (0x00, 0x90, some (.ok 8)) := by decide

theorem test_srl_mhl_on_rom_flags_write_dropped : after (step ({ code [0xCB, 0x3E] [(0x0010, 0x03)] with h := 0x00, l := 0x10, f := 0x00 }))
    (fun t => (t.readByte 0x0010, t.f, t.out)) = some (0x03, 0x10, some (.ok 16)) := by decide

theorem test_bit_7_h_set_z_0_other_flags_kept : after (step ({ code [0xCB, 0x7C] [] with h := 0x80, f := 0x70 }))
    (fun t => (t.h, t.f, t.out)) = some (0x80, 0x70, some (.ok 8)) := by decide

theorem test_bit_0_a_clear_with_bit_sets_nh : after (step ({ code [0xCB, 0x47] [] with a := 0xFE, f := 0x50, cfg := { bitSetsNH := true } }))
    (fun t => (t.a, t.f, t.out)) = some (0xFE, 0xB0, some (.ok 8)) := by decide

theorem test_bit_3_mhl : after (step ({ code [0xCB, 0x5E] [(0xC100, 0x08)] with h := 0xC1, l := 0x00, f := 0x80 }))
    (fun t => (t.f, t.out)) = some (0x00, some (.ok 12)) := by decide

theorem test_res_0_mhl : after (step ({ code [0xCB, 0x86] [(0xC100, 0xFF)] with h := 0xC1, l := 0x00, f := 0xF0 }))
    (fun t => (t.readByte 0xC100, t.f, t.out)) = some (0xFE, 0xF0, some (.ok 16)) := by decide

theorem test_res_7_a : after (step ({ code [0xCB, 0xBF] [] with a := 0x80, f := 0x00 }))
    (fun t => (t.a, t.f, t.out)) = some (0x00, 0x00, some (.ok 8)) := by decide

theorem test_set_7_a : after (step ({ code [0xCB, 0xFF] [] with a := 0x00, f := 0x80 }))
    (fun t => (t.a, t.f, t.out)) = some (0x80, 0x80, some (.ok 8)) := by decide

theorem test_set_4_mhl : after (step ({ code [0xCB, 0xE6] [(0xD000, 0x00)] with h := 0xD0, l := 0x00 }))
    (fun t => (t.readByte 0xD000, t.out)) = some (0x10, some (.ok 16)) := by decide

theorem test_jp_a16 : after (step (code [0xC3, 0x50, 0x01] []))
    (fun t => (t.pc, t.out)) = some (0x0150, some (.ok 16)) := by decide

theorem test_jp_nz_a16_taken : after (step ({ code [0xC2, 0x00, 0xD0] [] with f := 0x00 }))
    (fun t => (t.pc, t.out)) = some (0xD000, some (.ok 16)) := by decide

theorem test_jp_hl : after (step ({ code [0xE9] [] with h := 0x40, l := 0x00 }))
    (fun t => (t.pc, t.out)) = some (0x4000, some (.ok 4)) := by decide

theorem test_jr_s8_forward : after (step (code [0x18, 0x05] []))
    (fun t => (t.pc, t.out)) = some (0xC007, some (.ok 12)) := by decide

theorem test_ret : after (step ({ code [0xC9] [(0xDFFC, 0x03), (0xDFFD, 0xC1)] with sp := 0xDFFC }))
    (fun t => (t.pc, t.sp, t.ime, t.imePending, t.out)) = some (0xC103, 0xDFFE, false, none, some (.ok 16)) := by decide

theorem test_ret_nz_taken : after (step ({ code [0xC0] [(0xDFFC, 0x03), (0xDFFD, 0xC1)] with sp := 0xDFFC, f := 0x00 }))
    (fun t => (t.pc, t.sp, t.out)) = some (0xC103, 0xDFFE, some (.ok 20)) := by decide

theorem test_ret_c_not_taken : after (step ({ code [0xD8] [] with sp := 0xDFFC, f := 0x00 }))
    (fun t => (t.pc, t.sp, t.out)) = some (0xC001, 0xDFFC, some (.ok 8)) := by decide

theorem test_reti_sets_the_pending_enable : after (step ({ code [0xD9] [(0xDFFC, 0x03), (0xDFFD, 0xC1)] with sp := 0xDFFC }))
    (fun t => (t.pc, t.sp, t.ime, t.imePending, t.out)) = some (0xC103, 0xDFFE, false, some true, some (.ok 16)) := by decide

theorem test_reti_with_reti_immediate : after (step ({ code [0xD9] [(0xDFFC, 0x03), (0xDFFD, 0xC1)] with sp := 0xDFFC, cfg := { retiImmediate := true } }))
    (fun t => (t.pc, t.ime, t.imePending, t.out)) = some (0xC103, true, none, some (.ok 16)) := by decide

theorem test_rst_0x08 : after (step ({ code [0xCF] [] with sp := 0xDFFE }))
    (fun t => (t.pc, t.readByte 0xDFFD, t.readByte 0xDFFC, t.out)) = some (0x0008, 0xC0, 0x01, some (.ok 16)) := by decide

theorem test_daa_invalid_input_0x9a_n_0 : after (step ({ code [0x27] [] with a := 0x9A, f := 0x00 }))
    (fun t => (t.a, t.f, t.out)) = some (0x00, 0x90, some (.ok 4)) := by decide

theorem test_daa_0x00_with_n_h_c_1 : after (step ({ code [0x27] [] with a := 0x00, f := 0x70 }))
    (fun t => (t.a, t.f, t.out)) = some (0x9A, 0x50, some (.ok 4)) := by decide

theorem test_cpl : after (step ({ code [0x2F] [] with a := 0x35, f := 0x80 }))
    (fun t => (t.a, t.f, t.out)) = some (0xCA, 0xE0, some (.ok 4)) := by decide

theorem test_scf : after (step ({ code [0x37] [] with f := 0xE0 }))
    (fun t => (t.f, t.out)) = some (0x90, some (.ok 4)) := by decide

theorem test_ccf : after (step ({ code [0x3F] [] with f := 0x70 }))
    (fun t => (t.f, t.out)) = some (0x00, some (.ok 4)) := by decide

theorem test_ei_ime_changes_one_step_later : after (step (code [0xFB, 0x00] []))
    (fun t => (t.ime, t.imePending, t.out)) = some (false, some true, some (.ok 4)) := by decide

theorem test_di_delayed : after (step ({ code [0xF3, 0x00] [] with ime := true }))
    (fun t => (t.ime, t.imePending, t.out)) = some (true, some false, some (.ok 4)) := by decide

theorem test_di_with_di_immediate : after (step ({ code [0xF3] [] with ime := true, cfg := { diImmediate := true } }))
    (fun t => (t.ime, t.imePending, t.out)) = some (false, none, some (.ok 4)) := by decide

theorem test_illegal_0xfd_nothing_changes : after (step ({ code [0xFD] [] with a := 0x12, f := 0x50, ime := true, imePending := some false }))
    (fun t => (t.a, t.f, t.pc, t.imePending, t.fault)) = some (0x12, 0x50, 0xC000, some false, some ⟨0xFD, 0xC000⟩) := by decide

theorem test_entry_of_vblank : after (step ({ code [0x00] [(0xFF0F, 0x01), (0xFFFF, 0x01)] with ime := true, sp := 0xDFFE }))
    (fun t => (t.pc, t.sp, t.readByte 0xDFFD, t.ime, t.out)) = some (0x0040, 0xDFFC, 0xC0, false, some (.ok 20)) := by decide

theorem test_priority_lowest_enabled_bit : after (step ({ code [0x00] [(0xFF0F, 0x1F), (0xFFFF, 0x14)] with ime := true, sp := 0xDFFE }))
    (fun t => (t.pc, t.readByte 0xFF0F, t.out)) = some (0x0050, 0x1B, some (.ok 20)) := by decide

theorem test_ie_bits_7_5_never_request : after (step ({ code [0x00] [(0xFF0F, 0xE0), (0xFFFF, 0xE0)] with ime := true }))
    (fun t => (t.pc, t.readByte 0xFF0F, t.out)) = some (0xC001, 0xE0, some (.ok 4)) := by decide

theorem test_interrupt_dispatch_false : after (step ({ code [0x3C] [(0xFF0F, 0x01), (0xFFFF, 0x01)] with ime := true, cfg := { interruptDispatch := false } }))
    (fun t => (t.pc, t.readByte 0xFF0F, t.ime, t.out)) = some (0xC001, 0x01, true, some (.ok 4)) := by decide

theorem test_echo_write_lands_in_wram0 : after (step ({ code [0xEA, 0x23, 0xE1] [] with a := 0x5A }))
    (fun t => (t.readByte 0xC123, t.readByte 0xE123, t.out)) = some (0x5A, 0x5A, some (.ok 16)) := by decide

theorem test_echo_0xf000_is_wram1_0xd000 : after (step (code [0xFA, 0x00, 0xF0] [(0xD000, 0x77)]))
    (fun t => (t.a, t.out)) = some (0x77, some (.ok 16)) := by decide

/-! ## Witnesses: states and operands that meet the hypotheses of each statement -/

/-- A Running block at an instruction. -/
def running : State := code [0x3C] []
/-- The halt bug is pending. -/
def underHaltBug : State := { code [0x3C, 0x00] [] with haltBug := true }
/-- Halted, with line 2 requested and enabled, at an instruction. -/
def haltedWithRequest : State := { code [0x3C] [(0xFF0F, 0x04), (0xFFFF, 0x04)] with mode := .halted }
/-- An interrupt is due: IE and IF as given. -/
def due (ie if_ : Byte) : State := { code [0x00] [(0xFF0F, if_), (0xFFFF, ie)] with ime := true, sp := 0xDFFE }
/-- Stopped. -/
def inStop : State := { running with mode := .stopped }
/-- A fault is recorded. -/
def faulted : State := { running with fault := some ⟨0xD3, 0xC001⟩, out := some (.err ⟨0xD3, 0xC001⟩) }
/-- Before any cartridge data is loaded. -/
def unloaded : State := State.powerOn {} [] []
/-- One bank of external RAM. -/
def withEram : State := { running with eram := ⟨1, 0, 0, []⟩, eramDirty := true }

/-- DecodeOfEncode: a whole instruction of each length, with operands at their bounds. -/
theorem test_witness_DecodeOfEncode : Instr.wellFormed .nop = true ∧ Instr.wellFormed (.ld_A_d8 0xFF) = true ∧
    Instr.wellFormed (.jp_a16 0xFFFF) = true ∧ Instr.wellFormed .set_7_A = true := by decide
/-- EncodeOfDecode: a decoding of each length. -/
theorem test_witness_EncodeOfDecode : decode [0x00] = .ok (.nop, []) ∧ decode [0x3E, 0xFF, 0x11] = .ok (.ld_A_d8 0xFF, [0x11]) ∧
    decode [0xC3, 0xFF, 0xFF] = .ok (.jp_a16 0xFFFF, []) ∧ decode [0xCB] = .ok (.prefixCB, []) := ⟨rfl, rfl, rfl, rfl⟩
/-- LengthFromFirstByte: bytes of each length. -/
theorem test_witness_LengthFromFirstByte : (decodeOp 0xFF 0 0).length = 1 ∧ (decodeOp 0xCB 0xFF 0).length = 2 ∧
    (decodeOp 0x01 0 0).length = 3 := by decide
/-- IllegalBytesExactly: an illegal byte and its neighbours. -/
theorem test_witness_IllegalBytesExactly : (decodeOp 0xD3 0 0).isIllegal = true ∧ (decodeOp 0xD2 0 0).isIllegal = false ∧
    (decodeOp 0xFD 0 0).isIllegal = true ∧ (decodeOp 0xFE 0xD3 0).isIllegal = false := by decide
/-- TakesBytes of P1, P2, P3 and X2: a state without the halt bug. -/
theorem test_witness_TakesBytes : running.haltBug = false ∧ (running.issue (.jp_a16 0)).pc = 0xC003 := by decide

/-- What the decoder reads, if it reads an instruction. -/
def decoded (bytes : List Byte) : Option (Instr × List Byte) :=
  match decode bytes with
  | .ok r => some r
  | .error _ => none

theorem of_decoded {bytes : List Byte} {r : Instr × List Byte} (h : decoded bytes = some r) : decode bytes = .ok r := by
  unfold decoded at h
  split at h <;> simp_all

/-- StepRunsDecodedInstruction: Running, Halted with a request, under the halt bug, and at an illegal byte. -/
theorem test_witness_StepRunsDecodedInstruction :
    (RunsInstruction running ∧ decode (fetchedBytes running) = .ok (.inc_A, [0x00, 0x00])) ∧
    (RunsInstruction haltedWithRequest ∧ decode (fetchedBytes haltedWithRequest) = .ok (.inc_A, [0x00, 0x00])) ∧
    (RunsInstruction underHaltBug ∧ decode (fetchedBytes underHaltBug) = .ok (.inc_A, [0x3C, 0x00])) ∧
    (RunsInstruction (code [0xD3] []) ∧ decode (fetchedBytes (code [0xD3] [])) = .ok (.illegal_D3, [0x00, 0x00])) := by
  refine ⟨⟨?_, of_decoded (by decide)⟩, ⟨?_, of_decoded (by decide)⟩, ⟨?_, of_decoded (by decide)⟩, ⟨?_, of_decoded (by decide)⟩⟩ <;>
    unfold RunsInstruction Ready request <;> decide
/-- EveryInstructionCompletes: an instruction of either kind. -/
theorem test_witness_EveryInstructionCompletes : Instr.isIllegal .halt = false ∧ Instr.isIllegal .illegal_FD = true := by decide
/-- StepResult: a step with a cycle count, one with an error, a faulted block, and a block that is ready. -/
theorem test_witness_StepResult : after (step running) (fun t => t.out) = some (some (.ok 4)) ∧
    after (step (code [0xD3] [])) (fun t => t.out) = some (some (.err ⟨0xD3, 0xC000⟩)) ∧
    (faulted.loader.rom0 = true ∧ faulted.loader.failed = false ∧ faulted.fault = some ⟨0xD3, 0xC001⟩) ∧ Ready running := by
  unfold Ready; decide
/-- IllegalOpcodeAborts: the first and the last illegal byte. -/
theorem test_witness_IllegalOpcodeAborts : (RunsInstruction (code [0xD3] []) ∧ (code [0xD3] []).readByte (code [0xD3] []).pc = 0xD3) ∧
    (RunsInstruction (code [0xFD] []) ∧ (code [0xFD] []).readByte (code [0xFD] []).pc = 0xFD) := by
  unfold RunsInstruction Ready request; decide
/-- InterruptEntry: the lowest and the highest line, and a line with higher ones beside it; a Halted block too. -/
theorem test_witness_InterruptEntry :
    (EntersInterrupt (due 0x01 0x01) ∧ (request (due 0x01 0x01)).getLsbD 0 = true) ∧
    (EntersInterrupt (due 0xFF 0xF0) ∧ (request (due 0xFF 0xF0)).getLsbD 4 = true ∧ ∀ m < 4, (request (due 0xFF 0xF0)).getLsbD m = false) ∧
    (EntersInterrupt { due 0x14 0x1F with mode := .halted } ∧ (request (due 0x14 0x1F)).getLsbD 2 = true ∧
      ∀ m < 2, (request (due 0x14 0x1F)).getLsbD m = false) := by
  unfold EntersInterrupt Ready request; decide
/-- HaltWakeAndIdleSteps: Halted without a request, Stopped with one, Halted with one and either way on. -/
theorem test_witness_HaltWakeAndIdleSteps :
    (Ready { running with mode := .halted } ∧ request { running with mode := .halted } = 0) ∧ Ready { due 1 1 with mode := .stopped } ∧
    (Ready haltedWithRequest ∧ request haltedWithRequest ≠ 0 ∧
      (decodeOp (haltedWithRequest.readByte haltedWithRequest.pc) 0 0).isIllegal = false) ∧
    EntersInterrupt { due 0x01 0x01 with mode := .halted } := by
  unfold EntersInterrupt Ready request; decide
/-- PendingImeApplied: a NOP after EI, and one after DI. -/
theorem test_witness_PendingImeApplied : RunsInstruction { running with imePending := some true } ∧
    RunsInstruction { running with imePending := some false, ime := true } ∧ running.fetchInstr = .inc_A ∧
    after (step { running with imePending := some true }) (fun t => (t.ime, t.imePending)) = some (true, none) ∧
    after (exec .nop running) (fun t => t.ime) = some false := by
  unfold RunsInstruction Ready request; decide
/-- ModeWriters: a step while Stopped, and the steps of STOP, of HALT and of HALT under the bug's condition. -/
theorem test_witness_ModeWriters : after (step inStop) (fun t => t.mode) = some .stopped ∧
    after (step (code [0x10, 0x55] [])) (fun t => t.mode) = some .stopped ∧ after (step (code [0x76] [])) (fun t => t.mode) = some .halted ∧
    after (step (code [0x76] [(0xFF0F, 0x01), (0xFFFF, 0x01)])) (fun t => (t.mode, t.haltBug)) = some (.running, true) := by decide
/-- FlagsOnlyByTheirWriters: one byte for each clause. -/
theorem test_witness_FlagsOnlyByTheirWriters :
    (0x7F : Byte).toNat / 64 = 1 ∧ ((0x36 : Byte).toNat / 64 = 0 ∧ (0x36 : Byte).toNat % 8 ∈ [0, 2, 3, 6]) ∧
    ((0x31 : Byte).toNat / 64 = 0 ∧ (0x31 : Byte).toNat % 16 = 1) ∧ ((0xFF : Byte).toNat / 64 = 3 ∧ (0xFF : Byte).toNat % 8 ∈ [2, 4, 5, 7]) ∧
    ((0xF0 : Byte).toNat / 64 = 3 ∧ (0xF0 : Byte).toNat % 8 = 0 ∧ (0xF0 : Byte) ≠ 0xE8 ∧ (0xF0 : Byte) ≠ 0xF8) ∧
    ((0xF9 : Byte).toNat / 64 = 3 ∧ (0xF9 : Byte).toNat % 8 = 1 ∧ (0xF9 : Byte) ≠ 0xF1) ∧
    ((0xFB : Byte).toNat / 64 = 3 ∧ (0xFB : Byte).toNat % 8 = 3 ∧ (0xFB : Byte) ≠ 0xCB) ∧ 2 ≤ (0xBF : Byte).toNat / 64 ∧
    (exec (.push_AF) running matches .next _) = true := by decide

/-- InvariantStep and the host's moves: states with the invariant, one of them faulted. -/
theorem test_witness_InvariantStep : running.inv = true ∧ (step running matches .next _) = true ∧ underHaltBug.inv = true ∧
    faulted.inv = true := by decide
theorem test_witness_InvariantHostMoves : running.inv = true ∧ ((HostMove.sendInterrupt 4).apply running).state?.isSome = true ∧
    ((HostMove.setSwitchableWRAMBank 0).apply running).state?.isSome = true ∧ (HostMove.reset.apply faulted).state?.isSome = true := by decide
theorem test_witness_InvariantAtPowerOn : ({} : Config).wram1InitBank < ({} : Config).wram1Banks := by decide

/-- A state whose `IO_BOOT` names an I/O byte and IE. -/
def ioBooted : State := { running with cfg := { ioBoot := [(0xFF40, 0x91), (0xFFFF, 0x01)] } }
/-- HostReset: the bytes that `IO_BOOT` gives. -/
theorem test_witness_HostReset : ioBooted.inv = true ∧ (0xFF40, 0x91) ∈ ioBooted.cfg.ioBoot ∧
    (∀ v, (0xFF40, v) ∈ ioBooted.cfg.ioBoot → v = 0x91) := ⟨by decide, by simp [ioBooted], by simp [ioBooted]⟩
theorem test_hostReset_ioBoot : ioBooted.hostReset.readByte 0xFF40 = 0x91 ∧ ioBooted.hostReset.readByte 0xFFFF = 0x01 := by decide
/-- HostReset: a byte that `IO_BOOT` does not name, and a move that is not `reset`. -/
theorem test_witness_HostReset_kept : ioBooted.hasByte .io 0x41 = true ∧
    (∀ w ∈ ioBooted.cfg.ioBoot, w.1.toNat ≠ Region.io.base + 0x41) ∧ running.hasByte .rom0 0x3FFF = true :=
  ⟨by decide, by simp [ioBooted, Region.base], by decide⟩
theorem test_witness_HostReset_moves : HostMove.wake ≠ .reset ∧ (HostMove.wake.apply faulted).state? = some faulted := by decide
theorem test_witness_Wake : inStop.mode = .stopped ∧ running.mode ≠ .stopped ∧ HostMove.clearDirty ≠ .reset ∧ HostMove.clearDirty ≠ .wake ∧
    (HostMove.clearDirty.apply inStop).state?.isSome = true ∧ (step inStop matches .next _) = true := by decide
/-- SendInterrupt: the greatest line, the first number that is none, and a setting that names line 0 only. -/
theorem test_witness_SendInterrupt : running.cfg.envWrites = ({} : Config).envWrites ∧ (running.sendInterrupt 4).state?.isSome = true ∧
    running.sendInterrupt 5 = .notAMove := by decide
def onlyVBlank : State := { running with cfg := { envWrites := [⟨0xFF0F, 0x01, true⟩] } }
theorem test_sendInterrupt_within_envWrites : (onlyVBlank.sendInterrupt 0).state?.isSome = true ∧ onlyVBlank.sendInterrupt 1 = .notAMove ∧
    (onlyVBlank.cfg.envWrites.all fun p => p.addr == 0xFF0F && p.mask.getLsbD 1 == false) = true := by decide
/-- BankSelect: the greatest index of WRAM1, the first that is out of range, and a region with no bank. -/
theorem test_witness_BankSelect : (running.setSwitchableWRAMBank 0).state? = some running ∧
    running.setSwitchableWRAMBank 1 = .error (.bankIndexOutOfRange 1) running ∧
    running.setSwitchableROMBank 0 = .error (.bankIndexOutOfRange 0) running := ⟨rfl, rfl, rfl⟩
/-- EnvironmentWrite: LY, a bit of IF set, and two writes that are no moves. -/
theorem test_witness_EnvironmentWrite : running.cfg.envWrites = ({} : Config).envWrites ∧
    (∀ k < 8, (0x10 : Byte).getLsbD k = (running.readByte 0xFF0F).getLsbD k ∨ k < 5 ∧ (0x10 : Byte).getLsbD k = true) ∧
    ¬ (∀ k < 8, (0x20 : Byte).getLsbD k = (running.readByte 0xFF0F).getLsbD k ∨ k < 5 ∧ (0x20 : Byte).getLsbD k = true) ∧
    (0xFF45 : Word) ≠ 0xFF44 ∧ (0xFF45 : Word) ≠ 0xFF0F := by decide

/-- A bank of zeros. -/
def zeros (first last size : Nat) : BankImage := ⟨first, last, List.replicate size 0⟩
/-- Initialisation: a block before its first step; a good image and one of each fault. -/
theorem test_witness_Initialisation_states : unloaded.started = false ∧ unloaded.loader.rom0 = false ∧ unloaded.loader.rom1 = false ∧
    unloaded.loader.eram = false := by decide
theorem test_witness_Initialisation_good : (zeros 0 0x3FFF 0x4000).bytes.length = 0x4000 ∧
    BanksOk 0x4000 0x7FFF 0x4000 1 0 [zeros 0x4000 0x7FFF 0x4000] ∧ BanksOk 0xA000 0xBFFF 0x2000 0 7 [] :=
  ⟨List.length_replicate, ⟨fun x h => by simp at h; subst h; exact ⟨rfl, rfl, List.length_replicate⟩, rfl, fun _ => by decide⟩,
    ⟨fun x h => by simp at h, rfl, fun h => absurd h (by decide)⟩⟩
theorem test_witness_Initialisation_bad : ¬ BanksOk 0x4000 0x7FFF 0x4000 2 0 [] ∧ ¬ BanksOk 0xA000 0xBFFF 0x2000 1 1 [zeros 0xA000 0xBFFF 0x2000] ∧
    ¬ BanksOk 0xA000 0xBFFF 0x2000 1 0 [zeros 0x4000 0x7FFF 0x2000] :=
  ⟨fun h => absurd h.counted (by decide), fun h => absurd (h.initial (by decide)) (by decide),
    fun h => absurd (h.fit _ (List.mem_singleton.mpr rfl)).1 (by decide)⟩

/-- AddressMap and IllegalFallback: both ends of every range, with the switchable regions absent, and with a bank present. -/
theorem test_witness_AddressMap :
    [0x0000, 0x3FFF, 0x8000, 0x9FFF, 0xC000, 0xCFFF, 0xFE00, 0xFE9F, 0xFF00, 0xFF7F, 0xFF80, 0xFFFE, 0xFFFF].map running.resolve =
      [.cell .rom0 0, .cell .rom0 0x3FFF, .cell .vram 0, .cell .vram 0x1FFF, .cell .wram0 0, .cell .wram0 0xFFF, .cell .oam 0,
        .cell .oam 0x9F, .cell .io 0, .cell .io 0x7F, .cell .hram 0, .cell .hram 0x7E, .cell .ie 0] ∧
    [0x4000, 0x7FFF, 0xA000, 0xBFFF, 0xFEA0, 0xFEFF].map running.resolve = [.illegal, .illegal, .illegal, .illegal, .illegal, .illegal] ∧
    [0xD000, 0xDFFF, 0xE000, 0xEFFF, 0xF000, 0xFDFF].map running.resolve =
      [.cell .wram1 0, .cell .wram1 0xFFF, .cell .wram0 0, .cell .wram0 0xFFF, .cell .wram1 0, .cell .wram1 0xDFF] ∧
    [0xA000, 0xBFFF].map withEram.resolve = [.cell .eram 0, .cell .eram 0x1FFF] := by decide
theorem test_witness_IllegalFallback : running.rom1.count ≤ running.rom1.index ∧ running.eram.count ≤ running.eram.index ∧
    ({ running with wram1 := ⟨0, 0, 0, []⟩ } : State).resolve 0xFDFF = .illegal ∧ running.readByte 0xFEFF = 0xFF := by decide
theorem test_witness_WriteByte : (0x7FFF : Word).toNat ≤ 0x7FFF ∧ running.resolve 0xA000 = .illegal ∧
    (withEram.writeByte 0xA000 0x3C).readByte 0xA000 = 0x3C := by decide
/-- Stores: a store that lands, the byte it leaves, and a byte of a bank that it does not reach. -/
theorem test_witness_Stores : running.inv = true ∧ lastStored running 0xE010 [(0xC010, 0x11), (0xE010, 0x22)] = some 0x22 ∧
    lastStored running 0xC011 [(0xC010, 0x11)] = none ∧ lastStored running 0x2000 [(0x2000, 0x11)] = none ∧
    running.hasByte .wram1 0xFFF = true ∧ running.resolve 0xC010 ≠ .cell .wram1 0xFFF := by decide
theorem test_witness_DirtyNeverCleared : withEram.eramDirty = true ∧ (step withEram matches .next _) = true := by decide
theorem test_witness_RomAndBanksKeptByEveryStep : (step (code [0x77] []) matches .next _) = true := by decide
theorem test_witness_CanonicalMemoryIsUnique : Memory.wf [(0, 1), (0xFFFF, 2)] = true ∧ Memory.wf [(0, 1), (1, 0)] = false ∧
    Memory.wf [(1, 1), (0, 1)] = false := by decide

/-- LoadFromHL: HL at an illegal address. -/
theorem test_witness_LoadFromHL : ({ running with h := 0xFE, l := 0xA0 } : State).resolve (join 0xFE 0xA0) = .illegal := by decide
/-- LoadPair, IncAndDecPair: a pair that is not SP. -/
theorem test_witness_pairs : Pair.hl ≠ .sp := by decide
/-- Pop: the two stack bytes can be written, at 0xFFFF and 0xFFFE too. -/
theorem test_witness_PopPair : running.inv = true ∧ running.writable (running.sp - 1) = true ∧ running.writable (running.sp - 2) = true ∧
    (let s := { running with sp := 0x0000 }; s.writable (s.sp - 1) = true ∧ s.writable (s.sp - 2) = true) ∧
    running.writable 0x0000 = false := by decide
/-- Jumps, Calls, Returns: each condition, holding and failing. -/
theorem test_witness_conditions : [Cond.nz, .z, .nc, .c].map (condHolds { running with f := 0x90 }) = [false, true, false, true] ∧
    [Cond.nz, .z, .nc, .c].map (condHolds { running with f := 0x60 }) = [true, false, true, false] := by decide
/-- Returns, EnableAndDisable, BitTest: both settings of the parameters. -/
theorem test_witness_parameters : running.cfg.retiImmediate = false ∧ running.cfg.diImmediate = false ∧ running.cfg.bitSetsNH = false ∧
    ({ retiImmediate := true, diImmediate := true, bitSetsNH := true } : Config).retiImmediate = true := by decide
/-- HaltAndStop: HALT under the bug's condition, and without it. -/
theorem test_witness_HaltAndStop : (haltedWithRequest.ime = false ∧ request haltedWithRequest ≠ 0 ∧ haltedWithRequest.cfg.haltBug = true) ∧
    ¬ (running.ime = false ∧ request running ≠ 0 ∧ running.cfg.haltBug = true) := by
  unfold request; decide
/-- R481: Halted with IE = 0, and Halted with a line enabled that nothing requests, are hangs; a run in which the environment
requests the line, and the program then stops, is none. -/
def waiting (ie : Byte) : State := { code [0x10] [(0xFFFF, ie)] with mode := .halted }
theorem test_hung : (waiting 0x00).hung = true ∧ (waiting 0x01).hung = false := by decide
theorem test_hang_without_request : (waiting 0x01).hangsIn fun _ => .step := State.halted_hangs_in_steps rfl rfl (by decide)
theorem test_no_hang_when_requested : ¬ (waiting 0x01).hangsIn fun n => if n = 0 then .move (.sendInterrupt 0) else .step := by
  rintro (h | ⟨-, -, -, h⟩ | ⟨-, -, h⟩)
  · exact absurd h (by decide)
  · exact absurd (h 1) (by decide)
  · exact absurd (h 2) (by decide)
/-- R481: a tight `JR -2` loop is a hang, and not an end. -/
theorem test_tight_loop_hangs : (code [0x18, 0xFE] []).hangsIn fun _ => .step := State.tightLoop_hangs (by decide) (by decide)
theorem test_tight_loop_is_no_end : (code [0x18, 0xFE] []).ended = false ∧ (code [0x18, 0xFD] []).atTightLoop = false := by decide
/-- Registers that a frame keeps. -/
theorem test_witness_RegsKept : Reg8.b ∉ [Reg8.a, .h, .l] := by decide

end Sys2Proof.Tests
end

section
/-! The proofs of the statements about memory (20_memory.md): the decoder range by range, the byte write with its frame, and
what a step can do to memory and to the host's state. -/

namespace Sys2Proof.Machine

open Sys2Proof.Claims

/-! ## The address decoder, range by range -/

section Ranges

variable (s : State) {addr : Word}

/-- Outside the echo an address is decoded by its range. -/
theorem State.resolve_eq_resolveRange (h : ¬ (0xE000 ≤ addr.toNat ∧ addr.toNat ≤ 0xFDFF)) :
    s.resolve addr = s.resolveRange addr.toNat := by
  rw [State.resolve_eq, if_neg h]

theorem toNat_sub_0x2000 (h : 0xE000 ≤ addr.toNat) : (addr - 0x2000).toNat = addr.toNat - 0x2000 :=
  BitVec.toNat_sub_of_le (BitVec.le_def.mpr (show 0x2000 ≤ addr.toNat by omega))

/-- The echo is decoded as the address 0x2000 below (R89). -/
theorem State.resolve_echo (lo : 0xE000 ≤ addr.toNat) (hi : addr.toNat ≤ 0xFDFF) : s.resolve addr = s.resolve (addr - 0x2000) := by
  have hsub := toNat_sub_0x2000 lo
  rw [State.resolve_eq, if_pos ⟨lo, hi⟩, s.resolve_eq_resolveRange (by omega), hsub]

theorem State.resolve_rom0 (hi : addr.toNat ≤ 0x3FFF) : s.resolve addr = .cell .rom0 addr.toNat := by
  rw [s.resolve_eq_resolveRange (by omega), State.resolveRange, if_pos hi]

theorem State.resolve_rom1 (lo : 0x4000 ≤ addr.toNat) (hi : addr.toNat ≤ 0x7FFF) :
    s.resolve addr = s.rom1.locate .rom1 (addr.toNat - 0x4000) := by
  rw [s.resolve_eq_resolveRange (by omega), State.resolveRange]
  simp (disch := omega) only [if_neg, if_pos]

theorem State.resolve_vram (lo : 0x8000 ≤ addr.toNat) (hi : addr.toNat ≤ 0x9FFF) :
    s.resolve addr = .cell .vram (addr.toNat - 0x8000) := by
  rw [s.resolve_eq_resolveRange (by omega), State.resolveRange]
  simp (disch := omega) only [if_neg, if_pos]

theorem State.resolve_eram (lo : 0xA000 ≤ addr.toNat) (hi : addr.toNat ≤ 0xBFFF) :
    s.resolve addr = s.eram.locate .eram (addr.toNat - 0xA000) := by
  rw [s.resolve_eq_resolveRange (by omega), State.resolveRange]
  simp (disch := omega) only [if_neg, if_pos]

theorem State.resolve_wram0 (lo : 0xC000 ≤ addr.toNat) (hi : addr.toNat ≤ 0xCFFF) :
    s.resolve addr = .cell .wram0 (addr.toNat - 0xC000) := by
  rw [s.resolve_eq_resolveRange (by omega), State.resolveRange]
  simp (disch := omega) only [if_neg, if_pos]

theorem State.resolve_wram1 (lo : 0xD000 ≤ addr.toNat) (hi : addr.toNat ≤ 0xDFFF) :
    s.resolve addr = s.wram1.locate .wram1 (addr.toNat - 0xD000) := by
  rw [s.resolve_eq_resolveRange (by omega), State.resolveRange]
  simp (disch := omega) only [if_neg, if_pos]

theorem State.resolve_oam (lo : 0xFE00 ≤ addr.toNat) (hi : addr.toNat ≤ 0xFE9F) :
    s.resolve addr = .cell .oam (addr.toNat - 0xFE00) := by
  rw [s.resolve_eq_resolveRange (by omega), State.resolveRange]
  simp (disch := omega) only [if_neg, if_pos]

/-- The reserved range has no storage (R90). -/
theorem State.resolve_reserved (lo : 0xFEA0 ≤ addr.toNat) (hi : addr.toNat ≤ 0xFEFF) : s.resolve addr = .illegal := by
  rw [s.resolve_eq_resolveRange (by omega), State.resolveRange]
  simp (disch := omega) only [if_neg, if_pos]

theorem State.resolve_io (lo : 0xFF00 ≤ addr.toNat) (hi : addr.toNat ≤ 0xFF7F) :
    s.resolve addr = .cell .io (addr.toNat - 0xFF00) := by
  rw [s.resolve_eq_resolveRange (by omega), s.resolveRange_io lo hi]

theorem State.resolve_hram (lo : 0xFF80 ≤ addr.toNat) (hi : addr.toNat ≤ 0xFFFE) :
    s.resolve addr = .cell .hram (addr.toNat - 0xFF80) := by
  rw [s.resolve_eq_resolveRange (by omega), State.resolveRange]
  simp (disch := omega) only [if_neg, if_pos]

theorem State.resolve_ie (h : addr.toNat = 0xFFFF) : s.resolve addr = .cell .ie 0 := by
  rw [s.resolve_eq_resolveRange (by omega), State.resolveRange]
  simp (disch := omega) only [if_neg]

end Ranges

/-- A switchable region whose index is not below its count has no current bank; a count of 0 is one such case (R88). -/
theorem Banked.locate_eq_illegal {x : Banked} (h : x.count ≤ x.index) (r : Region) (off : Nat) : x.locate r off = .illegal :=
  if_neg fun hx => Nat.not_lt_of_le h hx.2

/-- WRAM1 without a current bank resolves to nothing, through its echo too (R88, R89). -/
theorem State.resolve_wram1_illegal {s : State} {addr : Word} (hx : s.wram1.count ≤ s.wram1.index)
    (h : 0xD000 ≤ addr.toNat ∧ addr.toNat ≤ 0xDFFF ∨ 0xF000 ≤ addr.toNat ∧ addr.toNat ≤ 0xFDFF) : s.resolve addr = .illegal := by
  rcases h with ⟨lo, hi⟩ | ⟨lo, hi⟩
  · rw [s.resolve_wram1 lo hi, Banked.locate_eq_illegal hx]
  · have hsub := toNat_sub_0x2000 (addr := addr) (by omega)
    rw [s.resolve_echo (by omega) hi, s.resolve_wram1 (by omega) (by omega), Banked.locate_eq_illegal hx]

/-! ## A write to ROM or to no storage -/

/-- No address of ROM is writable, whatever its bank (R104). -/
theorem State.writable_eq_false_of_rom (s : State) {addr : Word} (h : addr.toNat ≤ 0x7FFF) : s.writable addr = false := by
  unfold State.writable
  by_cases h0 : addr.toNat ≤ 0x3FFF
  · rw [s.resolve_rom0 h0]; rfl
  · rw [s.resolve_rom1 (by omega) h]
    obtain ⟨hl, -⟩ | ⟨hl, -⟩ := s.rom1.locate_cases .rom1 (addr.toNat - 0x4000) <;> rw [hl] <;> rfl

theorem State.writable_eq_false_of_illegal {s : State} {addr : Word} (h : s.resolve addr = .illegal) : s.writable addr = false := by
  rw [State.writable, h]; rfl

/-- A write that does not land changes nothing at all. -/
theorem State.writeByte_of_not_writable {s : State} {addr : Word} (h : s.writable addr = false) (v : Byte) :
    s.writeByte addr v = s := by
  obtain ⟨-, hw⟩ | ⟨_, _, -, hw, -⟩ := s.writeByte_cases addr v
  · exact hw
  · rw [h] at hw; cases hw

/-! ## A byte write and its frame -/

/-- A write counts as a store to each address that resolves to the place it lands in. -/
theorem lastStored_singleton (s : State) (a addr : Word) (v : Byte) :
    lastStored s a [(addr, v)] = if s.writable addr = true ∧ s.resolve addr = s.resolve a then some v else none := rfl

/-- Addresses that resolve alike read alike. -/
theorem State.readByte_eq_of_resolve_eq {s : State} {a b : Word} (h : s.resolve a = s.resolve b) : s.readByte a = s.readByte b := by
  rw [State.readByte, State.readByte, h]

/-- A write that lands is read back at every address of its place: at the echo too (R89). -/
theorem State.readByte_writeByte_of_resolve_eq {s : State} (hc : s.canonical) {addr a : Word} (v : Byte) (hw : s.writable addr = true)
    (hr : s.resolve addr = s.resolve a) : (s.writeByte addr v).readByte a = v := by
  calc (s.writeByte addr v).readByte a = (s.writeByte addr v).readByte addr := State.readByte_eq_of_resolve_eq (by simp [hr])
    _ = v := State.readByte_writeByte_eq hc v hw

theorem stores_writeByte (s : State) (addr : Word) (v : Byte) : Stores s (s.writeByte addr v) [(addr, v)] := by
  simp only [Stores, lastStored_singleton]
  refine ⟨fun a => s.resolve_writeByte addr a v, fun a hn => ?_, fun hi a w hs => ?_, fun r off hb hw => ?_, ?_⟩
  · refine s.readByte_writeByte_ne v fun hw hr => ?_
    rw [if_pos ⟨hw, hr.symm⟩] at hn; cases hn
  · split at hs
    next h => cases hs; exact State.readByte_writeByte_of_resolve_eq (State.canonical_of_inv hi) v h.1 h.2
    next => cases hs
  · exact s.loadCell_writeByte_ne v hb (hw _ (List.mem_singleton.mpr rfl))
  · simp [State.eramDirty_writeByte]

theorem hostKept_writeByte (s : State) (addr : Word) (v : Byte) : HostKept s (s.writeByte addr v) := by
  simp [HostKept]

theorem hostKept_trans {s t u : State} (h : HostKept s t) (h' : HostKept t u) : HostKept s u := by
  simp_all [HostKept]

/-! ## What a step does to memory and to the host's state -/

/-- Memory, the banks, the ERAM flags and the host's state of `t` are those of `s`. Unlike `SameStore` it says nothing of the
fault, so that an illegal opcode's step is of this kind too. -/
structure SameMemory (s t : State) : Prop where
  mem : t.mem = s.mem
  rom1 : t.rom1 = s.rom1
  eram : t.eram = s.eram
  wram1 : t.wram1 = s.wram1
  dirty : t.eramDirty = s.eramDirty
  persistent : t.eramPersistent = s.eramPersistent
  loader : t.loader = s.loader
  cfg : t.cfg = s.cfg

namespace SameMemory

variable {s t u : State}

theorem ofSameStore (h : SameStore s t) : SameMemory s t :=
  ⟨h.mem, h.rom1, h.eram, h.wram1, h.dirty, h.persistent, h.loader, h.cfg⟩

theorem trans (h : SameMemory s t) (h' : SameMemory t u) : SameMemory s u :=
  ⟨h'.mem.trans h.mem, h'.rom1.trans h.rom1, h'.eram.trans h.eram, h'.wram1.trans h.wram1, h'.dirty.trans h.dirty,
    h'.persistent.trans h.persistent, h'.loader.trans h.loader, h'.cfg.trans h.cfg⟩

theorem resolve_eq (h : SameMemory s t) (a : Word) : t.resolve a = s.resolve a :=
  State.resolve_congr (by simp [h.rom1]) (by simp [h.eram]) (by simp [h.wram1]) a

theorem hostKept (h : SameMemory s t) : HostKept s t := by
  simp [HostKept, h.rom1, h.eram, h.wram1, h.persistent, h.loader, h.cfg]

/-- A byte write reads and changes memory and the banks alone. -/
theorem writeByte (h : SameMemory s t) (a : Word) (v : Byte) : SameMemory (s.writeByte a v) (t.writeByte a v) := by
  unfold State.writeByte
  rw [h.resolve_eq a]
  obtain ⟨hm, h1, h2, h3, h4, h5, h6, h7⟩ := h
  rcases s.resolve a with ⟨r, off⟩ | _
  · cases r <;> constructor <;> simp [State.writeLoc, State.storeCell, hm, h1, h2, h3, h4, h5, h6, h7]
  · exact ⟨hm, h1, h2, h3, h4, h5, h6, h7⟩

theorem writeAll (h : SameMemory s t) (ws : List (Word × Byte)) : SameMemory (s.writeAll ws) (t.writeAll ws) := by
  induction ws generalizing s t with
  | nil => exact h
  | cons w ws ih => exact ih (h.writeByte w.1 w.2)

theorem issue (s : State) (i : Instr) : SameMemory s (s.issue i) := by
  unfold State.issue
  split <;> constructor <;> rfl

end SameMemory

/-- `Push16` is two byte writes (R13). -/
theorem State.push16_writes (s : State) (v : Word) :
    SameMemory (s.writeAll [(s.sp - 1, hiByte v), (s.sp - 2, loByte v)]) (s.push16 v) := by
  constructor <;> rfl

/-- Interrupt entry is three byte writes: IF, and PC onto the stack (R425). -/
theorem State.interruptEntry_writes (s : State) : ∃ ws, SameMemory (s.writeAll ws) s.interruptEntry := by
  let flags := s.readByte addrIF &&& ~~~(1#8 <<< lowestLine s.req)
  let cleared := s.writeByte addrIF flags
  let control : State := { cleared with mode := .running, ime := false, imePending := none }
  have hcontrol : SameMemory cleared control := by constructor <;> rfl
  let stack := [(control.sp - 1, hiByte control.pc), (control.sp - 2, loByte control.pc)]
  have hpush : SameMemory (cleared.writeAll stack) (control.push16 control.pc) :=
    (hcontrol.writeAll stack).trans (control.push16_writes control.pc)
  have hentry : SameMemory (control.push16 control.pc) s.interruptEntry := by constructor <;> rfl
  exact ⟨(addrIF, flags) :: stack, hpush.trans hentry⟩

/-- Every step that gives a next state changes memory, the banks and the ERAM flags by a list of byte writes and by nothing else;
the host's state is untouched. -/
theorem step_writes {s t : State} (h : step s = .next t) : ∃ ws, SameMemory (s.writeAll ws) t := by
  obtain ⟨-, -, -, ⟨-, rfl⟩ | ⟨-, -, rfl⟩ | ⟨-, -, he⟩⟩ := step_next h
  · exact ⟨[], by constructor <;> rfl⟩
  · exact s.interruptEntry_writes
  · cases hi : s.fetchInstr.isIllegal with
    | true =>
      obtain ⟨op, -, hx⟩ := effect_illegal s.fetchInstr s hi
      rw [s.issue_illegal hi, hx] at he
      cases he
      exact ⟨[], by constructor <;> rfl⟩
    | false =>
      obtain ⟨t', hx, eff⟩ := effect s.fetchInstr (s.issue s.fetchInstr) hi
      rw [hx] at he
      cases he
      obtain ⟨ws, hs⟩ := eff.store
      exact ⟨ws, ((SameMemory.issue s s.fetchInstr).writeAll ws).trans (.ofSameStore hs)⟩

/-! ## ROM and the banks -/

/-- The host's state, ROM0 and the ROM1 banks of `t` are those of `s`. -/
def CartridgeKept (s t : State) : Prop :=
  HostKept s t ∧ (∀ off, off < 0x4000 → t.loadCell .rom0 off = s.loadCell .rom0 off) ∧ t.rom1 = s.rom1

namespace CartridgeKept

variable {s t u : State}

theorem ofSameMemory (h : SameMemory s t) : CartridgeKept s t :=
  ⟨h.hostKept, fun off _ => State.loadCell_congr h.mem h.rom1 h.eram h.wram1 .rom0 off, h.rom1⟩

theorem trans (h : CartridgeKept s t) (h' : CartridgeKept t u) : CartridgeKept s u := by
  obtain ⟨hh, hrom, h1⟩ := h
  obtain ⟨hh', hrom', h1'⟩ := h'
  exact ⟨hostKept_trans hh hh', fun off ho => (hrom' off ho).trans (hrom off ho), h1'.trans h1⟩

/-- A byte of ROM0 is no place a write lands in, so that a write keeps it; ROM1 is kept whole (R104). -/
theorem writeByte (s : State) (addr : Word) (v : Byte) : CartridgeKept s (s.writeByte addr v) := by
  refine ⟨hostKept_writeByte s addr v, fun off ho => ?_, by simp⟩
  refine s.loadCell_writeByte_ne v (decide_eq_true ho) fun hw hr => ?_
  rw [State.writable, hr] at hw
  cases hw

theorem writeAll (s : State) (ws : List (Word × Byte)) : CartridgeKept s (s.writeAll ws) := by
  induction ws generalizing s with
  | nil => exact ofSameMemory (by constructor <;> rfl)
  | cons w ws ih => exact (writeByte s w.1 w.2).trans (ih _)

end CartridgeKept

end Sys2Proof.Machine

/-! ## The statements -/

namespace Sys2Proof.Proofs

open Sys2Proof.Machine Sys2Proof.Claims

/-- Settles O31: a step is a list of byte writes, and no byte write reaches ROM or the host's state. -/
theorem romAndBanksKeptByEveryStep : Obligations.RomAndBanksKeptByEveryStep := by
  intro s t h
  obtain ⟨ws, hs⟩ := step_writes h
  exact (CartridgeKept.writeAll s ws).trans (.ofSameMemory hs)

/-- Settles O27: one law of the decoder per range. -/
theorem addressMap : Obligations.AddressMap := by
  rintro s addr _ rfl
  exact ⟨s.resolve_rom0, fun h => s.resolve_rom1 h.1 h.2, fun h => s.resolve_vram h.1 h.2, fun h => s.resolve_eram h.1 h.2,
    fun h => s.resolve_wram0 h.1 h.2, fun h => s.resolve_wram1 h.1 h.2, fun h => s.resolve_echo h.1 h.2,
    fun h => s.resolve_oam h.1 h.2, fun h => s.resolve_reserved h.1 h.2, fun h => s.resolve_io h.1 h.2,
    fun h => s.resolve_hram h.1 h.2, s.resolve_ie⟩

/-- Settles O28: the laws of reads and writes at the illegal fallback, and the ranges that resolve to it. -/
theorem illegalFallback : Obligations.IllegalFallback := by
  refine ⟨fun s addr r off h => ?_, fun s addr h => ?_, ?_⟩
  · rw [State.readByte, h]; rfl
  · exact ⟨State.readByte_eq_illegal h, State.writeByte_of_not_writable (State.writable_eq_false_of_illegal h)⟩
  · rintro s addr _ rfl (⟨lo, hi⟩ | ⟨lo, hi, hx⟩ | ⟨lo, hi, hx⟩ | ⟨h, hx⟩)
    · exact s.resolve_reserved lo hi
    · rw [s.resolve_rom1 lo hi, Banked.locate_eq_illegal hx]
    · rw [s.resolve_eram lo hi, Banked.locate_eq_illegal hx]
    · exact State.resolve_wram1_illegal hx h

/-- Settles O29: the laws of `writeByte`; a write to ROM or to no storage does not land. -/
theorem writeByte : Obligations.WriteByte := by
  intro s addr v
  refine ⟨stores_writeByte s addr v, fun r _ => s.reg_writeByte addr v r, by simp [FlagsSpPcKept], by simp [ControlKept],
    hostKept_writeByte s addr v, fun h => State.writeByte_of_not_writable ?_ v⟩
  rcases h with h | h
  · exact s.writable_eq_false_of_rom h
  · exact State.writable_eq_false_of_illegal h

/-- Settles O25: each command is `select` on its region, and `select` succeeds exactly below the count. -/
theorem bankSelect : Obligations.BankSelect := by
  intro s i
  refine ⟨?_, ?_, ?_⟩
  · by_cases h : i < s.rom1.count <;> simp [State.setSwitchableROMBank, Banked.select, h]
  · by_cases h : i < s.wram1.count <;> simp [State.setSwitchableWRAMBank, Banked.select, h]
  · by_cases h : i < s.eram.count <;> simp [State.setExternalRAMBank, Banked.select, h]

end Sys2Proof.Proofs
end

section
/-! The proofs of the statements about the encoding (30_encoding.md): how many bytes each decoding is long and reads. -/

namespace Sys2Proof

open Machine (join)

/-! ## The length of each form with an operand field -/

section Lengths

variable (n : Byte) (v : Word) (cc : Cond)

theorem length_mkJrCond : (mkJrCond n cc).length = 2 := by cases cc <;> rfl
theorem length_mkRetCond : (mkRetCond cc).length = 1 := by cases cc <;> rfl
theorem length_mkJpCond : (mkJpCond v cc).length = 3 := by cases cc <;> rfl
theorem length_mkCallCond : (mkCallCond v cc).length = 3 := by cases cc <;> rfl
theorem length_mkLdPair (p : Pair) : (mkLdPair v p).length = 3 := by cases p <;> rfl
theorem length_mkAddHL (p : Pair) : (mkAddHL p).length = 1 := by cases p <;> rfl
theorem length_mkIncPair (p : Pair) : (mkIncPair p).length = 1 := by cases p <;> rfl
theorem length_mkDecPair (p : Pair) : (mkDecPair p).length = 1 := by cases p <;> rfl
theorem length_mkPop (p : StackPair) : (mkPop p).length = 1 := by cases p <;> rfl
theorem length_mkPush (p : StackPair) : (mkPush p).length = 1 := by cases p <;> rfl
theorem length_mkInc (r : Reg8) : (mkInc r).length = 1 := by cases r <;> rfl
theorem length_mkDec (r : Reg8) : (mkDec r).length = 1 := by cases r <;> rfl
theorem length_mkLdImm (r : Reg8) : (mkLdImm n r).length = 2 := by cases r <;> rfl
theorem length_mkAluImm (f : AluOp) : (mkAluImm n f).length = 2 := by cases f <;> rfl

end Lengths

theorem length_mkRst : ∀ t : Fin 8, (mkRst t).length = 1 := by decide

/-- Every form of the extended table is two bytes long: 0xCB and its own byte. -/
theorem length_decodeExtended : ∀ op2 : Byte, (decodeExtended op2).length = 2 := Byte.of_digits (by decide)

theorem length_decodeX1 : ∀ op : Byte, (decodeX1 op).length = 1 := Byte.of_digits (by decide)

theorem length_decodeX2 : ∀ op : Byte, (decodeX2 op).length = 1 := Byte.of_digits (by decide)

/-! ## The bytes a decoding reads -/

/-- A decoding `f` of one first byte, as a function of the two bytes after it, gives instructions of `k` bytes and reads no
byte past them. -/
inductive ReadsBytes : Nat → (Byte → Byte → Instr) → Prop where
  | one (i : Instr) (h : i.length = 1) : ReadsBytes 1 fun _ _ => i
  | two (f : Byte → Instr) (h : ∀ n, (f n).length = 2) : ReadsBytes 2 fun n1 _ => f n1
  | three (f : Word → Instr) (h : ∀ v, (f v).length = 3) : ReadsBytes 3 fun n1 n2 => f (join n2 n1)

namespace ReadsBytes

variable {k : Nat} {f : Byte → Byte → Instr}

theorem length_eq (h : ReadsBytes k f) (n1 n2 : Byte) : (f n1 n2).length = k := by
  cases h with
  | one i h => exact h
  | two f h => exact h n1
  | three f h => exact h (join n2 n1)

theorem eq_of_one (h : ReadsBytes 1 f) (n1 n2 m1 m2 : Byte) : f m1 m2 = f n1 n2 := by
  cases h; rfl

theorem eq_of_two (h : ReadsBytes 2 f) (n1 n2 m2 : Byte) : f n1 m2 = f n1 n2 := by
  cases h; rfl

end ReadsBytes

/-! ## The decoder, quarter by quarter -/

/-- The rows are those of `decodeX0`. -/
theorem decodeX0_readsBytes {op : Byte} (hx : fieldX op = 0) : ReadsBytes (lengthOf op) (decodeX0 op) := by
  have hz := fieldZ_lt op
  have hy := fieldY_lt op
  unfold lengthOf decodeX0
  rw [hx]
  generalize fieldZ op = z at *
  generalize fieldY op = y at *
  match z, y with
  | 0, 0 => exact .one .nop rfl
  | 0, 1 => exact .three .ld_mA16_SP fun _ => rfl
  | 0, 2 => exact .two .stop fun _ => rfl
  | 0, 3 => exact .two .jr_s8 fun _ => rfl
  | 0, 4 | 0, 5 | 0, 6 | 0, 7 => exact .two (mkJrCond · (condField (fieldCC op))) fun n => length_mkJrCond n _
  | 1, _ =>
    by_cases hq : fieldQ op = 0
    · simp only [hq, if_true]; exact .three (mkLdPair · _) fun v => length_mkLdPair v _
    · simp only [hq, if_false]; exact .one _ (length_mkAddHL _)
  | 2, 0 | 2, 1 | 2, 2 | 2, 3 | 2, 4 | 2, 5 | 2, 6 | 2, 7 => exact .one _ rfl
  | 3, _ =>
    by_cases hq : fieldQ op = 0
    · simp only [hq, if_true]; exact .one _ (length_mkIncPair _)
    · simp only [hq, if_false]; exact .one _ (length_mkDecPair _)
  | 4, y =>
    cases ho : operand8Field y with
    | reg r => simp only [ho]; exact .one _ (length_mkInc r)
    | mHL => simp only [ho]; exact .one .inc_mHL rfl
  | 5, y =>
    cases ho : operand8Field y with
    | reg r => simp only [ho]; exact .one _ (length_mkDec r)
    | mHL => simp only [ho]; exact .one .dec_mHL rfl
  | 6, y =>
    cases ho : operand8Field y with
    | reg r => simp only [ho]; exact .two (mkLdImm · r) fun n => length_mkLdImm n r
    | mHL => simp only [ho]; exact .two .ld_mHL_d8 fun _ => rfl
  | 7, 0 | 7, 1 | 7, 2 | 7, 3 | 7, 4 | 7, 5 | 7, 6 | 7, 7 => exact .one _ rfl

/-- The rows are those of `decodeX3`. -/
theorem decodeX3_readsBytes {op : Byte} (hx : fieldX op = 3) : ReadsBytes (lengthOf op) (decodeX3 op) := by
  have hz := fieldZ_lt op
  have hy := fieldY_lt op
  unfold lengthOf decodeX3
  rw [hx]
  generalize fieldZ op = z at *
  generalize fieldY op = y at *
  match z, y with
  | 0, 0 | 0, 1 | 0, 2 | 0, 3 => exact .one _ (length_mkRetCond (condField (fieldCC op)))
  | 0, 4 => exact .two .ldh_mA8_A fun _ => rfl
  | 0, 5 => exact .two .add_SP_s8 fun _ => rfl
  | 0, 6 => exact .two .ldh_A_mA8 fun _ => rfl
  | 0, 7 => exact .two .ld_HL_SPs8 fun _ => rfl
  | 1, 0 | 1, 2 | 1, 4 | 1, 6 => exact .one _ (length_mkPop (stackPairField (fieldP op)))
  | 1, 1 => exact .one .ret rfl
  | 1, 3 => exact .one .reti rfl
  | 1, 5 => exact .one .jp_HL rfl
  | 1, 7 => exact .one .ld_SP_HL rfl
  | 2, 0 | 2, 1 | 2, 2 | 2, 3 => exact .three (mkJpCond · (condField (fieldCC op))) fun v => length_mkJpCond v _
  | 2, 4 => exact .one .ldh_mC_A rfl
  | 2, 5 => exact .three .ld_mA16_A fun _ => rfl
  | 2, 6 => exact .one .ldh_A_mC rfl
  | 2, 7 => exact .three .ld_A_mA16 fun _ => rfl
  | 3, 0 => exact .three .jp_a16 fun _ => rfl
  | 3, 1 => exact .two decodeExtended length_decodeExtended
  | 3, 2 | 3, 3 | 3, 4 | 3, 5 | 3, 6 | 3, 7 => exact .one _ rfl
  | 4, 0 | 4, 1 | 4, 2 | 4, 3 => exact .three (mkCallCond · (condField (fieldCC op))) fun v => length_mkCallCond v _
  | 4, 4 | 4, 5 | 4, 6 | 4, 7 => exact .one _ rfl
  | 5, 0 | 5, 2 | 5, 4 | 5, 6 => exact .one _ (length_mkPush (stackPairField (fieldP op)))
  | 5, 1 => exact .three .call_a16 fun _ => rfl
  | 5, 3 => exact .one .illegal_DD rfl
  | 5, 5 => exact .one .illegal_ED rfl
  | 5, 7 => exact .one .illegal_FD rfl
  | 6, y => exact .two (mkAluImm · (aluField y)) fun n => length_mkAluImm n _
  | 7, y => exact .one _ (length_mkRst (fin8Field y))

/-- `lengthOf` tells from the first byte how long the decoding is, and no byte past that is read (R142). -/
theorem decodeOp_readsBytes (op : Byte) : ReadsBytes (lengthOf op) (decodeOp op) := by
  unfold decodeOp
  match hx : fieldX op, fieldX_lt op with
  | 0, _ => exact decodeX0_readsBytes hx
  | 1, _ => unfold lengthOf; rw [hx]; exact .one _ (length_decodeX1 op)
  | 2, _ => unfold lengthOf; rw [hx]; exact .one _ (length_decodeX2 op)
  | 3, _ => exact decodeX3_readsBytes hx

end Sys2Proof

namespace Sys2Proof.Proofs

/-- Settles O4: every decoding is as long as `lengthOf` says and reads no byte past that; the two lists are those of
`lengthOf`, byte by byte. -/
theorem lengthFromFirstByte : Obligations.LengthFromFirstByte := by
  intro op n1 n2
  have h := decodeOp_readsBytes op
  rw [h.length_eq]
  refine ⟨?_, fun h1 m1 m2 => ?_, fun h2 m2 => ?_⟩
  · clear h
    revert op
    exact Byte.of_digits (by decide)
  · rw [h1] at h
    exact h.eq_of_one n1 n2 m1 m2
  · rw [h2] at h
    exact h.eq_of_two n1 n2 m2

end Sys2Proof.Proofs
end

section
/-! The rules that every statement about one instruction uses: its encoding and length from the bytes that decode to it, and its
frame from the bytes it writes, the registers it names and the cycle count. -/

namespace Sys2Proof.Machine

open Sys2Proof.Claims

/-! ## A list of byte writes -/

/-- The last write counts first. -/
theorem lastStored_cons (s : State) (a : Word) (w : Word × Byte) (ws : List (Word × Byte)) :
    lastStored s a (w :: ws) =
      (lastStored s a ws).or (if s.writable w.1 = true ∧ s.resolve w.1 = s.resolve a then some w.2 else none) := by
  rw [lastStored]
  cases lastStored s a ws <;> rfl

/-- Where a store lands depends on the address decoder alone, which no write changes. -/
theorem lastStored_writeByte (s : State) (addr a : Word) (v : Byte) (ws : List (Word × Byte)) :
    lastStored (s.writeByte addr v) a ws = lastStored s a ws := by
  induction ws with
  | nil => rfl
  | cons w ws ih => simp only [lastStored_cons, ih, State.writable_writeByte, State.resolve_writeByte]

theorem State.resolve_writeAll (s : State) (ws : List (Word × Byte)) (a : Word) : (s.writeAll ws).resolve a = s.resolve a := by
  induction ws generalizing s with
  | nil => rfl
  | cons w ws ih => rw [State.writeAll, ih, State.resolve_writeByte]

theorem State.readByte_writeAll_of_none {s : State} {ws : List (Word × Byte)} {a : Word} (h : lastStored s a ws = none) :
    (s.writeAll ws).readByte a = s.readByte a := by
  induction ws generalizing s with
  | nil => rfl
  | cons w ws ih =>
    rw [lastStored_cons, Option.or_eq_none_iff] at h
    obtain ⟨hws, hw⟩ := h
    rw [State.writeAll, ih (by rw [lastStored_writeByte, hws])]
    refine s.readByte_writeByte_ne w.2 fun hl hr => ?_
    rw [if_pos ⟨hl, hr.symm⟩] at hw
    cases hw

theorem State.readByte_writeAll_of_some {s : State} {ws : List (Word × Byte)} {a : Word} {v : Byte} (hc : s.canonical)
    (h : lastStored s a ws = some v) : (s.writeAll ws).readByte a = v := by
  induction ws generalizing s with
  | nil => cases h
  | cons w ws ih =>
    rw [State.writeAll]
    rw [lastStored_cons, Option.or_eq_some_iff] at h
    obtain hws | ⟨hws, hw⟩ := h
    · exact ih (State.canonical_writeByte hc w.1 w.2) (by rw [lastStored_writeByte, hws])
    · rw [State.readByte_writeAll_of_none (by rw [lastStored_writeByte, hws])]
      obtain ⟨⟨hl, hr⟩, hv⟩ := Option.ite_none_right_eq_some.mp hw
      rw [State.readByte_writeByte_of_resolve_eq hc w.2 hl hr, Option.some.inj hv]

theorem State.loadCell_writeAll {s : State} {ws : List (Word × Byte)} {r : Region} {off : Nat} (hb : s.hasByte r off = true)
    (h : ∀ w ∈ ws, s.writable w.1 = true → s.resolve w.1 ≠ .cell r off) :
    (s.writeAll ws).loadCell r off = s.loadCell r off := by
  induction ws generalizing s with
  | nil => rfl
  | cons w ws ih =>
    obtain ⟨hw, hws⟩ := List.forall_mem_cons.mp h
    rw [State.writeAll, ih (by rw [State.hasByte_writeByte, hb]) (by simpa using hws), s.loadCell_writeByte_ne w.2 hb hw]

theorem State.eramDirty_writeAll (s : State) (ws : List (Word × Byte)) :
    (s.writeAll ws).eramDirty = (s.eramDirty || ws.any fun w => (s.resolve w.1).inEram) := by
  induction ws generalizing s with
  | nil => simp [State.writeAll]
  | cons w ws ih => simp [State.writeAll, ih, State.eramDirty_writeByte, Bool.or_assoc]

/-! ## The sign extension of a displacement -/

/-- R9 says by cases what sign extension does. -/
theorem sext16_eq_signExtend (e : Byte) : sext16 e = e.signExtend 16 := by
  have he := e.isLt
  apply BitVec.eq_of_toNat_eq
  rw [BitVec.toNat_signExtend, BitVec.msb_eq_decide, sext16, zext16]
  by_cases h : e.toNat < 0x80
  · simp [h, show ¬ 128 ≤ e.toNat by omega]
  · simp [h, show 128 ≤ e.toNat by omega]
    omega

/-! ## The low bits of F -/

/-- With bits 3 to 0 of F zero, F is what AF reads (R46). -/
theorem State.flagByte_eq {s : State} (hf : s.f &&& 0x0F = 0) : s.flagByte = s.f := by
  calc s.f &&& 0xF0 = s.f &&& 0xF0 ||| s.f &&& 0x0F := by rw [hf]; exact BitVec.or_zero.symm
    _ = s.f &&& (0xF0 ||| 0x0F) := BitVec.and_or_distrib_left.symm
    _ = s.f := BitVec.and_allOnes

theorem State.f_low_of_inv {s : State} (h : s.inv = true) : s.f &&& 0x0F = 0 := by
  simp only [State.inv, Bool.and_eq_true, beq_iff_eq] at h
  exact h.1

end Sys2Proof.Machine

namespace Sys2Proof.Claims

open Sys2Proof.Machine

/-! ## Encodings -/

theorem TakesBytes.of_length {i : Instr} {len : Nat} (hl : i.length = len + 1) (hi : i.isIllegal = false) :
    TakesBytes (len + 1) i := by
  refine ⟨hl, fun s hb => ?_⟩
  simp only [State.issue, hi, State.operandPc, hb, hl, Bool.false_eq_true, if_false, Nat.add_sub_cancel,
    BitVec.ofNat_eq_ofNat]
  rw [Nat.add_comm len 1, BitVec.ofNat_add, ← BitVec.add_assoc]

/-- What the first byte decodes to is as long as that byte alone tells (R142). -/
theorem TakesBytes.of_decodeOp {op n1 n2 : Byte} {i : Instr} {len : Nat} (hd : decodeOp op n1 n2 = i) (hl : lengthOf op = len + 1)
    (hi : i.isIllegal = false) : TakesBytes (len + 1) i :=
  .of_length (by rw [← hd, (decodeOp_readsBytes op).length_eq, hl]) hi

theorem P1.of_decodeOp {op : Nat} {i : Instr} (hd : ∀ n1 n2, decodeOp (BitVec.ofNat 8 op) n1 n2 = i)
    (hl : lengthOf (BitVec.ofNat 8 op) = 1) (hi : i.isIllegal = false) : P1 op i :=
  ⟨hd, .of_decodeOp (hd 0 0) hl hi⟩

theorem P2.of_decodeOp {op : Nat} {i : Byte → Instr} (hd : ∀ n n2, decodeOp (BitVec.ofNat 8 op) n n2 = i n)
    (hl : lengthOf (BitVec.ofNat 8 op) = 2) (hi : ∀ n, (i n).isIllegal = false) : P2 op i :=
  fun n => ⟨hd n, .of_decodeOp (hd n 0) hl (hi n)⟩

/-- The decoder joins the two operand bytes, of which the first is the low one. -/
theorem P3.of_decodeOp {op : Nat} {i : Word → Instr} (hd : ∀ n1 n2, decodeOp (BitVec.ofNat 8 op) n1 n2 = i (join n2 n1))
    (hl : lengthOf (BitVec.ofNat 8 op) = 3) (hi : ∀ v, (i v).isIllegal = false) : P3 op i := fun v =>
  have hv : decodeOp (BitVec.ofNat 8 op) (loByte v) (hiByte v) = i v := by rw [hd, join_hiByte_loByte]
  ⟨hv, .of_decodeOp hv hl (hi v)⟩

/-! ## Stores -/

theorem stores_writeAll (s : State) (ws : List (Word × Byte)) : Stores s (s.writeAll ws) ws :=
  ⟨s.resolve_writeAll ws, fun _ => State.readByte_writeAll_of_none,
    fun hi _ _ => State.readByte_writeAll_of_some (State.canonical_of_inv hi), fun _ _ => State.loadCell_writeAll,
    s.eramDirty_writeAll ws⟩

/-- Stores are a matter of memory, the banks and the dirty flag alone. -/
theorem Stores.sameMemory {s t u : State} {ws : List (Word × Byte)} (h : Stores s t ws) (hm : SameMemory t u) : Stores s u ws := by
  obtain ⟨hres, hnone, hsome, hcell, hdirty⟩ := h
  have hread (a : Word) : u.readByte a = t.readByte a := State.readByte_congr hm.mem hm.rom1 hm.eram hm.wram1 a
  have hload (r : Region) (off : Nat) : u.loadCell r off = t.loadCell r off :=
    State.loadCell_congr hm.mem hm.rom1 hm.eram hm.wram1 r off
  exact ⟨fun a => (hm.resolve_eq a).trans (hres a), fun a hl => (hread a).trans (hnone a hl),
    fun hi a v hl => (hread a).trans (hsome hi a v hl), fun r off hb hw => (hload r off).trans (hcell r off hb hw),
    hm.dirty.trans hdirty⟩

/-! ## The frame of an instruction -/

/-- Registers left alone by two moves in a row. -/
theorem RegsKept.trans {l l' : List Reg8} {s t u : State} (h : RegsKept l s t) (h' : RegsKept l' t u) : RegsKept (l ++ l') s u := by
  intro r hr
  rw [List.mem_append, not_or] at hr
  exact (h' r hr.2).trans (h r hr.1)

theorem regsKept_setReg (s : State) (r : Reg8) (v : Byte) : RegsKept [r] s (s.setReg r v) :=
  fun _ hr => s.reg_setReg_ne v (List.ne_of_not_mem_cons hr)

theorem regsKept_setPair (s : State) (p : Pair) (v : Word) : RegsKept (pairRegs p) s (s.setPair p v) := by
  intro r hr
  cases p <;> cases r <;> simp_all [pairRegs, State.setPair, State.reg]

theorem regsKept_setHL (s : State) (v : Word) : RegsKept [.h, .l] s (s.setHL v) := regsKept_setPair s .hl v

/-- The frame of an instruction that ends in the state `t` with the cycle count `n`, of whose parts only the registers, the control
state and the writes need a proof. -/
theorem Frame.of_writes {but : List Reg8} {ws : List (Word × Byte)} {s t : State} (n : Nat) (hm : SameMemory (s.writeAll ws) t)
    (hr : RegsKept but s t) (hc : ControlKept s t) : Frame but ws n s (t.withCycles n) := by
  have hm' : SameMemory (s.writeAll ws) (t.withCycles n) := hm.trans (by constructor <;> rfl)
  obtain ⟨hhost, -, -⟩ := CartridgeKept.writeAll s ws
  exact ⟨fun r h => (t.reg_withCycles n r).trans (hr r h), hc, hostKept_trans hhost hm'.hostKept,
    (stores_writeAll s ws).sameMemory hm', rfl⟩

theorem flags_setFlags (s : State) (z n h c : Bool) : Flags (s.setFlags z n h c) z n h c := by
  simp [Flags]

end Sys2Proof.Claims
end

section
/-! The proofs of the statements about loads, stores and the stack (40_load.md): the encoding of each form, the frame of each shared
operation, and what PUSH then POP gives back. -/

namespace Sys2Proof.Machine

/-! ## PUSH, then POP -/

/-- The word a push stores is the word popped next, when both its bytes land: the second byte goes to another place than the
first. -/
theorem State.popValue_push16 {s : State} (hc : s.canonical) (hhi : s.writable (s.sp - 1) = true) (hlo : s.writable (s.sp - 2) = true)
    (v : Word) : (s.push16 v).popValue = v := by
  have hsucc : s.sp - 2 + 1 = s.sp - 1 := by bv_omega
  have hne : s.resolve (s.sp - 1) ≠ s.resolve (s.sp - 2) := hsucc ▸ State.resolve_succ_ne hlo
  let high := s.writeByte (s.sp - 1) (hiByte v)
  let both := high.writeByte (s.sp - 2) (loByte v)
  have hread (a : Word) : (s.push16 v).readByte a = both.readByte a := State.readByte_congr rfl rfl rfl rfl a
  have hlow : both.readByte (s.sp - 2) = loByte v :=
    State.readByte_writeByte_eq (State.canonical_writeByte hc _ _) _ (by simpa [high] using hlo)
  have hhigh : both.readByte (s.sp - 1) = hiByte v := by
    rw [high.readByte_writeByte_ne _ fun _ => by simpa [high] using hne]
    exact State.readByte_writeByte_eq hc _ hhi
  rw [State.popValue, State.readWord, State.push16_sp, hsucc, hread, hread, hlow, hhigh, join_hiByte_loByte]

/-- Writing the pair of `s` where the registers are those of `s` changes none of them. -/
theorem State.reg_setStackPair_stackPair {s t : State} (h : ∀ r, t.reg r = s.reg r) (q : StackPair) (r : Reg8) :
    (t.setStackPair q (s.stackPair q)).reg r = s.reg r := by
  have hr := h r
  cases q <;> cases r <;>
    simp_all [State.setStackPair, State.stackPair, State.reg, State.bc, State.de, State.hl, State.af]

theorem State.f_setStackPair_stackPair {s t : State} (hf : s.f &&& 0x0F = 0) (h : t.f = s.f) (q : StackPair) :
    (t.setStackPair q (s.stackPair q)).f = s.f := by
  cases q with
  | bc | de | hl => exact h
  | af =>
    have haf : loByte s.af = s.f := by rw [State.af, loByte_join, State.flagByte_eq hf]
    calc loByte s.af &&& 0xF0 = s.flagByte := by rw [haf]; rfl
      _ = s.f := State.flagByte_eq hf

end Sys2Proof.Machine

namespace Sys2Proof.Claims

open Sys2Proof.Machine

/-! ## The encodings of the forms with an operand field -/

theorem p1_mkLdReg (dst src : Reg8) : P1 (0x40 + 8 * regCode dst + regCode src) (mkLdReg dst src) := by
  cases dst <;> cases src <;> exact .of_decodeOp (fun _ _ => rfl) rfl rfl

theorem p2_mkLdImm (dst : Reg8) : P2 (0x06 + 8 * regCode dst) (fun n => mkLdImm n dst) := by
  cases dst <;> exact .of_decodeOp (fun _ _ => rfl) rfl fun _ => rfl

theorem p1_mkLdFromHL (dst : Reg8) : P1 (0x46 + 8 * regCode dst) (mkLdFromHL dst) := by
  cases dst <;> exact .of_decodeOp (fun _ _ => rfl) rfl rfl

theorem p1_mkLdToHL (src : Reg8) : P1 (0x70 + regCode src) (mkLdToHL src) := by
  cases src <;> exact .of_decodeOp (fun _ _ => rfl) rfl rfl

theorem p3_mkLdPair (p : Pair) : P3 (0x01 + 16 * pairCode p) (fun v => mkLdPair v p) := by
  cases p <;> exact .of_decodeOp (fun _ _ => rfl) rfl fun _ => rfl

theorem p1_mkPush (q : StackPair) : P1 (0xC5 + 16 * stackCode q) (mkPush q) := by
  cases q <;> exact .of_decodeOp (fun _ _ => rfl) rfl rfl

theorem p1_mkPop (q : StackPair) : P1 (0xC1 + 16 * stackCode q) (mkPop q) := by
  cases q <;> exact .of_decodeOp (fun _ _ => rfl) rfl rfl

/-! ## The frames of the shared operations -/

/-- The registers A to L of a stack pair; the low half of AF is F. -/
def stackPairRegs : StackPair → List Reg8
  | .bc => [.b, .c]
  | .de => [.d, .e]
  | .hl => [.h, .l]
  | .af => [.a]

theorem regsKept_setStackPair (s : State) (q : StackPair) (v : Word) : RegsKept (stackPairRegs q) s (s.setStackPair q v) := by
  intro r hr
  cases q <;> cases r <;> simp_all [stackPairRegs, State.setStackPair, State.reg]

section Frames

variable (s : State) (n : Nat)

theorem frame_setReg (r : Reg8) (v : Byte) : Frame [r] [] n s ((s.setReg r v).withCycles n) :=
  .of_writes n (by constructor <;> simp [State.writeAll]) (regsKept_setReg s r v) (by simp [ControlKept])

theorem frame_setPair (p : Pair) (v : Word) : Frame (pairRegs p) [] n s ((s.setPair p v).withCycles n) :=
  .of_writes n (by constructor <;> simp [State.writeAll]) (regsKept_setPair s p v) (by simp [ControlKept])

theorem frame_writeByte (addr : Word) (v : Byte) : Frame [] [(addr, v)] n s ((s.writeByte addr v).withCycles n) :=
  .of_writes n (by constructor <;> rfl) (fun r _ => s.reg_writeByte addr v r) (by simp [ControlKept])

theorem frame_writeWord (addr v : Word) :
    Frame [] [(addr, loByte v), (addr + 1, hiByte v)] n s ((s.writeWord addr v).withCycles n) :=
  .of_writes n (by constructor <;> rfl) (fun r _ => s.reg_writeWord addr v r) (by simp [ControlKept])

theorem frame_push16 (v : Word) :
    Frame [] [(s.sp - 1, hiByte v), (s.sp - 2, loByte v)] n s ((s.push16 v).withCycles n) :=
  .of_writes n (s.push16_writes v) (fun r _ => s.reg_push16 v r) (by simp [ControlKept])

theorem frame_popSp_setStackPair (q : StackPair) (v : Word) :
    Frame (stackPairRegs q) [] n s ((s.popSp.setStackPair q v).withCycles n) :=
  .of_writes n (by constructor <;> simp [State.writeAll])
    (RegsKept.trans (l := []) (fun r _ => s.reg_popSp r) (regsKept_setStackPair s.popSp q v)) (by simp [ControlKept])

theorem frame_setReg_setHL (r : Reg8) (v : Byte) (hl : Word) :
    Frame [r, .h, .l] [] n s (((s.setReg r v).setHL hl).withCycles n) :=
  .of_writes n (by constructor <;> simp [State.writeAll]) ((regsKept_setReg s r v).trans (regsKept_setHL _ hl)) (by simp [ControlKept])

theorem frame_writeByte_setHL (addr : Word) (v : Byte) (hl : Word) :
    Frame [.h, .l] [(addr, v)] n s (((s.writeByte addr v).setHL hl).withCycles n) :=
  .of_writes n (by constructor <;> rfl) (RegsKept.trans (l := []) (fun r _ => s.reg_writeByte addr v r) (regsKept_setHL _ hl))
    (by simp [ControlKept])

theorem frame_setHL_setFlags (v : Word) (z nf h c : Bool) :
    Frame [.h, .l] [] n s (((s.setHL v).setFlags z nf h c).withCycles n) :=
  .of_writes n (by constructor <;> rfl) (fun r hr => ((s.setHL v).reg_setFlags z nf h c r).trans (regsKept_setHL s v r hr))
    (by simp [ControlKept])

end Frames

/-! ## Loading and storing A -/

theorem loadsAccumulator {i : Instr} {addr : State → Word} {n : Nat} (h : ∀ s, exec i s = ldAFrom (addr s) n s) :
    LoadsAccumulator i addr n :=
  fun s => ⟨_, h s, rfl, ⟨rfl, rfl, rfl⟩, frame_setReg s n .a (s.readByte (addr s))⟩

theorem storesAccumulator {i : Instr} {addr : State → Word} {n : Nat} (h : ∀ s, exec i s = ldATo (addr s) n s) :
    StoresAccumulator i addr n :=
  fun s => ⟨_, h s, by simp [FlagsSpPcKept], frame_writeByte s n (addr s) s.a⟩

theorem loadsThenMovesHL {i : Instr} {d : Word} (h : ∀ s, exec i s = ldAFromHLThen (s.hl + d) s) : LoadsThenMovesHL i d :=
  fun s => ⟨_, h s, rfl, join_hiByte_loByte (s.hl + d), ⟨rfl, rfl, rfl⟩,
    frame_setReg_setHL s 8 .a (s.readByte s.hl) (s.hl + d)⟩

theorem storesThenMovesHL {i : Instr} {d : Word} (h : ∀ s, exec i s = ldAToHLThen (s.hl + d) s) : StoresThenMovesHL i d :=
  fun s => ⟨_, h s, join_hiByte_loByte (s.hl + d), by simp [FlagsSpPcKept], frame_writeByte_setHL s 8 s.hl s.a (s.hl + d)⟩

end Sys2Proof.Claims

/-! ## The statements -/

namespace Sys2Proof.Proofs

open Sys2Proof.Machine Sys2Proof.Claims

/-- Settles O33: both forms write one register. -/
theorem loadRegister : Obligations.LoadRegister := by
  refine ⟨fun dst src => ⟨p1_mkLdReg dst src, fun s => ?_⟩, fun dst => ⟨p2_mkLdImm dst, fun n s => ?_⟩⟩
  · exact ⟨_, exec_mkLdReg dst src s, by simp, by simp [FlagsSpPcKept], frame_setReg s 4 dst (s.reg src)⟩
  · exact ⟨_, exec_mkLdImm n dst s, by simp, by simp [FlagsSpPcKept], frame_setReg s 8 dst n⟩

/-- Settles O34: one register takes the byte read at the old HL. -/
theorem loadFromHL : Obligations.LoadFromHL := by
  intro dst
  refine ⟨p1_mkLdFromHL dst, fun s => ?_⟩
  have hreg : ((s.setReg dst (s.readByte s.hl)).withCycles 8).reg dst = s.readByte s.hl := by simp
  exact ⟨_, exec_mkLdFromHL dst s, hreg, fun h => hreg.trans (State.readByte_eq_illegal h), by simp [FlagsSpPcKept],
    frame_setReg s 8 dst _⟩

/-- Settles O35: both forms are one byte write. -/
theorem storeToHL : Obligations.StoreToHL := by
  refine ⟨fun src => ⟨p1_mkLdToHL src, fun s => ?_⟩, .of_decodeOp (fun _ _ => rfl) rfl fun _ => rfl, fun n s => ?_⟩
  · exact ⟨_, exec_mkLdToHL src s, by simp [FlagsSpPcKept], frame_writeByte s 8 s.hl (s.reg src)⟩
  · exact ⟨_, rfl, by simp [FlagsSpPcKept], frame_writeByte s 12 s.hl n⟩

/-- Settles O36: the five forms are `ldAFrom` at their address. -/
theorem loadAccumulator : Obligations.LoadAccumulator :=
  ⟨⟨.of_decodeOp (fun _ _ => rfl) rfl rfl, loadsAccumulator fun _ => rfl⟩,
    ⟨.of_decodeOp (fun _ _ => rfl) rfl rfl, loadsAccumulator fun _ => rfl⟩,
    ⟨.of_decodeOp (fun _ _ => rfl) rfl fun _ => rfl, fun _ => loadsAccumulator fun _ => rfl⟩,
    ⟨.of_decodeOp (fun _ _ => rfl) rfl rfl, loadsAccumulator fun _ => rfl⟩,
    ⟨.of_decodeOp (fun _ _ => rfl) rfl fun _ => rfl, fun _ => loadsAccumulator fun _ => rfl⟩⟩

/-- Settles O37: the five forms are `ldATo` at their address. -/
theorem storeAccumulator : Obligations.StoreAccumulator :=
  ⟨⟨.of_decodeOp (fun _ _ => rfl) rfl rfl, storesAccumulator fun _ => rfl⟩,
    ⟨.of_decodeOp (fun _ _ => rfl) rfl rfl, storesAccumulator fun _ => rfl⟩,
    ⟨.of_decodeOp (fun _ _ => rfl) rfl fun _ => rfl, fun _ => storesAccumulator fun _ => rfl⟩,
    ⟨.of_decodeOp (fun _ _ => rfl) rfl rfl, storesAccumulator fun _ => rfl⟩,
    ⟨.of_decodeOp (fun _ _ => rfl) rfl fun _ => rfl, fun _ => storesAccumulator fun _ => rfl⟩⟩

/-- Settles O38: the access is at the old HL; decrementing adds -1. -/
theorem postModifyHL : Obligations.PostModifyHL :=
  ⟨⟨.of_decodeOp (fun _ _ => rfl) rfl rfl, loadsThenMovesHL fun _ => rfl⟩,
    ⟨.of_decodeOp (fun _ _ => rfl) rfl rfl, loadsThenMovesHL fun s => congrArg (ldAFromHLThen · s) (BitVec.sub_eq_add_neg s.hl 1)⟩,
    ⟨.of_decodeOp (fun _ _ => rfl) rfl rfl, storesThenMovesHL fun _ => rfl⟩,
    ⟨.of_decodeOp (fun _ _ => rfl) rfl rfl, storesThenMovesHL fun s => congrArg (ldAToHLThen · s) (BitVec.sub_eq_add_neg s.hl 1)⟩⟩

/-- Settles O39: one pair is written. -/
theorem loadPair : Obligations.LoadPair := by
  intro p
  refine ⟨p3_mkLdPair p, fun v s => ⟨_, exec_mkLdPair v p s, ?_, by simp, fun hp => ?_, by simp, frame_setPair s 12 p v⟩⟩
  · cases p with
    | bc | de | hl => exact ⟨rfl, rfl⟩
    | sp => rfl
  · cases p with
    | bc | de | hl => rfl
    | sp => exact absurd rfl hp

/-- Settles O40: a word write, a write of SP, and the flags of `addSPe`. -/
theorem stackPointerLoads : Obligations.StackPointerLoads := by
  refine ⟨⟨.of_decodeOp (fun _ _ => rfl) rfl fun _ => rfl, fun v s => ?_⟩,
    ⟨.of_decodeOp (fun _ _ => rfl) rfl rfl, fun s => ?_⟩, .of_decodeOp (fun _ _ => rfl) rfl fun _ => rfl, fun e s => ?_⟩
  · exact ⟨_, rfl, by simp [FlagsSpPcKept], frame_writeWord s 20 v s.sp⟩
  · exact ⟨_, rfl, rfl, rfl, rfl, frame_setPair s 8 .sp s.hl⟩
  · have hhl : (s.setHL (addSPe s.sp e).value).hl = s.sp + e.signExtend 16 := by
      rw [State.hl_setHL, addSPe, sext16_eq_signExtend]
    exact ⟨_, rfl, hhl, flags_setFlags (s.setHL (addSPe s.sp e).value) _ _ _ _, rfl, rfl,
      frame_setHL_setFlags s 12 (addSPe s.sp e).value _ _ _ _⟩

/-- Settles O41: a push is two byte writes, and its two bytes are the registers of the pair. -/
theorem pushPair : Obligations.PushPair := by
  intro q
  refine ⟨p1_mkPush q, fun s => ⟨_, exec_mkPush q s, by simp, rfl, by simp, ?_⟩⟩
  have h := frame_push16 s 16 (s.stackPair q)
  cases q <;> simpa [State.stackPair, State.bc, State.de, State.hl, State.af, State.flagByte] using h

/-- Settles O42: a pop writes the two registers of the pair, and after a push it reads back what the push stored. -/
theorem popPair : Obligations.PopPair := by
  refine ⟨fun q => ⟨p1_mkPop q, fun s => ⟨_, exec_mkPop q s, by simp, by simp, ?_⟩⟩, fun q s hi hhi hlo => ?_⟩
  · have h := frame_popSp_setStackPair s 12 q s.popValue
    cases q with
    | bc | de | hl => exact ⟨hiByte_join _ _, loByte_join _ _, rfl, h⟩
    | af => exact ⟨hiByte_join _ _, congrArg (· &&& 0xF0) (loByte_join _ _), h⟩
  · let t := (s.push16 (s.stackPair q)).withCycles 16
    have hv : t.popValue = s.stackPair q := State.popValue_push16 (State.canonical_of_inv hi) hhi hlo (s.stackPair q)
    refine ⟨t, _, exec_mkPush q s, exec_mkPop q t, fun r _ => ?_, ?_, ?_⟩
    · rw [hv]
      exact State.reg_setStackPair_stackPair (fun r => by simp [t]) q r
    · rw [hv]
      exact State.f_setStackPair_stackPair (State.f_low_of_inv hi) (by simp [t]) q
    · calc (t.popSp.setStackPair q t.popValue).sp = s.sp - 2 + 2 := State.setStackPair_sp t.popSp q t.popValue
        _ = s.sp := BitVec.sub_add_cancel s.sp 2

end Sys2Proof.Proofs
end

section
/-! The proofs of the statements about arithmetic and logic (41_arithmetic.md): what the flag-logic unit computes, as naturals,
integers and bits; and the three forms of an ALU operation from the one operation they share. -/

namespace Sys2Proof.Machine

/-! ## The flag-logic unit -/

theorem bitByte_toNat (c : Bool) : (bitByte c).toNat = c.toNat := by cases c <;> rfl

/-- R251: the byte is the difference modulo 256, and the remainder of a negative integer is not negative. -/
theorem sub8_value_toInt (a b : Byte) (cin : Bool) :
    ((sub8 a b cin).value.toNat : Int) = ((a.toNat : Int) - b.toNat - cin.toNat) % 256 := by
  have ha := a.isLt
  have hb := b.isLt
  have hc := cin.toNat_le
  rw [sub8, BitVec.toNat_sub, BitVec.toNat_sub, bitByte_toNat]
  omega

/-- The zero flag of a difference is that of its byte. -/
theorem sub8_z (a b : Byte) (cin : Bool) : (sub8 a b cin).z = decide (((a.toNat : Int) - b.toNat - cin.toNat) % 256 = 0) := by
  rw [← sub8_value_toInt, Bool.eq_iff_iff, decide_eq_true_iff, sub8, beq_iff_eq]
  bv_omega

theorem and_0x0F_toNat (v : Byte) : (v &&& 0x0F).toNat = v.toNat % 16 := by
  rw [BitVec.toNat_and]
  exact Nat.and_two_pow_sub_one_eq_mod v.toNat 4

section IncDec

variable (v : Byte) (c : Bool)

theorem inc8_value_toNat : (inc8 v c).value.toNat = (v.toNat + 1) % 256 := BitVec.toNat_add v 1

theorem dec8_value_toNat : (dec8 v c).value.toNat = (v.toNat + 255) % 256 := by
  rw [dec8, BitVec.toNat_sub, Nat.add_comm]
  rfl

theorem inc8_z : (inc8 v c).z = (v.toNat == 0xFF) := by
  rw [inc8, Bool.eq_iff_iff, beq_iff_eq, beq_iff_eq]
  bv_omega

theorem dec8_z : (dec8 v c).z = (v.toNat == 1) := by
  rw [dec8, Bool.eq_iff_iff, beq_iff_eq, beq_iff_eq]
  bv_omega

theorem inc8_h : (inc8 v c).h = (v.toNat % 16 == 0xF) := by
  rw [inc8, Bool.eq_iff_iff, beq_iff_eq, beq_iff_eq, ← BitVec.toNat_inj, and_0x0F_toNat]
  rfl

theorem dec8_h : (dec8 v c).h = (v.toNat % 16 == 0) := by
  rw [dec8, Bool.eq_iff_iff, beq_iff_eq, beq_iff_eq, ← BitVec.toNat_inj, and_0x0F_toNat]
  rfl

end IncDec

end Sys2Proof.Machine

namespace Sys2Proof.Claims

open Sys2Proof.Machine

/-! ## The encodings of the forms with an operand field -/

theorem p1_mkAluReg (op : AluOp) (r : Reg8) : P1 (0x80 + 8 * aluCode op + regCode r) (mkAluReg op r) := by
  cases op <;> cases r <;> exact .of_decodeOp (fun _ _ => rfl) rfl rfl

theorem p1_mkAluHL (op : AluOp) : P1 (0x86 + 8 * aluCode op) (mkAluHL op) := by
  cases op <;> exact .of_decodeOp (fun _ _ => rfl) rfl rfl

theorem p2_mkAluImm (op : AluOp) : P2 (0xC6 + 8 * aluCode op) (fun n => mkAluImm n op) := by
  cases op <;> exact .of_decodeOp (fun _ _ => rfl) rfl fun _ => rfl

theorem p1_mkInc (r : Reg8) : P1 (0x04 + 8 * regCode r) (mkInc r) := by
  cases r <;> exact .of_decodeOp (fun _ _ => rfl) rfl rfl

theorem p1_mkDec (r : Reg8) : P1 (0x05 + 8 * regCode r) (mkDec r) := by
  cases r <;> exact .of_decodeOp (fun _ _ => rfl) rfl rfl

theorem p1_mkAddHL (p : Pair) : P1 (0x09 + 16 * pairCode p) (mkAddHL p) := by
  cases p <;> exact .of_decodeOp (fun _ _ => rfl) rfl rfl

theorem p1_mkIncPair (p : Pair) : P1 (0x03 + 16 * pairCode p) (mkIncPair p) := by
  cases p <;> exact .of_decodeOp (fun _ _ => rfl) rfl rfl

theorem p1_mkDecPair (p : Pair) : P1 (0x0B + 16 * pairCode p) (mkDecPair p) := by
  cases p <;> exact .of_decodeOp (fun _ _ => rfl) rfl rfl

/-! ## Frames and flags -/

/-- A frame says nothing of F, so that it holds as well of an instruction that also writes the flags. -/
theorem Frame.setFlags {but : List Reg8} {ws : List (Word × Byte)} {n : Nat} {s t : State} (hf : Frame but ws n s (t.withCycles n))
    (z nf h c : Bool) : Frame but ws n s ((t.setFlags z nf h c).withCycles n) := by
  obtain ⟨hregs, hcontrol, hhost, hstores, -⟩ := hf
  exact ⟨fun r hr => by simpa using hregs r hr, hcontrol, hhost, hstores.sameMemory (by constructor <;> rfl), rfl⟩

theorem flags_setFlags_withCycles (s : State) (z n h c : Bool) (k : Nat) :
    Flags ((s.setFlags z n h c).withCycles k) z n h c := flags_setFlags s z n h c

/-- The flags of `t` are those the unit computed with the result `r`. -/
def ResFlags (t : State) (r : Res8) : Prop := Flags t r.z r.n r.h r.c

theorem resFlags_setResFlags (t : State) (r : Res8) (n : Nat) : ResFlags ((t.setResFlags r).withCycles n) r :=
  flags_setFlags_withCycles ..

theorem flags_inc8 (t : State) (v : Byte) (c : Bool) (n : Nat) :
    Flags ((t.setResFlags (inc8 v c)).withCycles n) (v.toNat == 0xFF) false (v.toNat % 16 == 0xF) c := by
  rw [← inc8_z v c, ← inc8_h v c]
  exact resFlags_setResFlags ..

theorem flags_dec8 (t : State) (v : Byte) (c : Bool) (n : Nat) :
    Flags ((t.setResFlags (dec8 v c)).withCycles n) (v.toNat == 1) true (v.toNat % 16 == 0) c := by
  rw [← dec8_z v c, ← dec8_h v c]
  exact resFlags_setResFlags ..

/-! ## The three forms of an ALU operation -/

/-- What A holds after an ALU operation whose result is `r`: CP does not write it (R281). -/
def aluAccumulator (op : AluOp) (s : State) (r : Res8) : Byte := if op = .cp then s.a else r.value

/-- An ALU operation writes A, back as it was under CP, and the flags. -/
theorem aluWith_eq (op : AluOp) (v : Byte) (n : Nat) (s : State) :
    aluWith op v n s = .next (((s.setReg .a (aluAccumulator op s (alu op s.a v s.cf))).setResFlags (alu op s.a v s.cf)).withCycles n) := by
  cases op <;> rfl

/-- A form runs as `effect` says on its operand `v`, in `n` cycles, and writes no register but A. -/
def RunsAlu (effect : State → State → Byte → Prop) (i : Instr) (s : State) (v : Byte) (n : Nat) : Prop :=
  ∃ t, exec i s = .next t ∧ effect s t v ∧ t.sp = s.sp ∧ t.pc = s.pc ∧ Frame [.a] [] n s t

/-- An effect that follows from A and the flags as the unit computes them is the effect of every form. -/
theorem aluForms {op : AluOp} {effect : State → State → Byte → Prop}
    (h : ∀ s t v, t.a = aluAccumulator op s (alu op s.a v s.cf) → ResFlags t (alu op s.a v s.cf) → effect s t v) :
    AluForms op effect := by
  have runs (i : Instr) (s : State) (v : Byte) (n : Nat) (hi : exec i s = aluWith op v n s) : RunsAlu effect i s v n :=
    ⟨_, hi.trans (aluWith_eq op v n s), h _ _ _ rfl (resFlags_setResFlags ..), rfl, rfl, (frame_setReg s n .a _).setFlags _ _ _ _⟩
  exact ⟨fun r => ⟨p1_mkAluReg op r, fun s => runs _ s (s.reg r) 4 (exec_mkAluReg op r s)⟩,
    ⟨p1_mkAluHL op, fun s => runs _ s (s.readByte s.hl) 8 (exec_mkAluHL op s)⟩,
    p2_mkAluImm op, fun n s => runs _ s n 8 (exec_mkAluImm n op s)⟩

section Effects

variable {s t : State} {v : Byte} {cin : Bool} {cinOf : State → Nat}

/-- The carry-in of ADC and SBC. -/
theorem carryIn_eq (s : State) : carryIn s = s.cf.toNat := by
  rw [carryIn]
  cases s.cf <;> rfl

theorem addEffect (hc : cinOf s = cin.toNat) (ha : t.a = (add8 s.a v cin).value) (hf : ResFlags t (add8 s.a v cin)) :
    AddEffect cinOf s t v := by
  rw [AddEffect, hc, ha]
  exact ⟨BitVec.toNat_ofNat .., hf⟩

theorem subEffect {keep : Bool} (hc : cinOf s = cin.toNat) (ha : t.a = if keep then s.a else (sub8 s.a v cin).value)
    (hf : ResFlags t (sub8 s.a v cin)) : SubEffect keep cinOf s t v := by
  rw [ResFlags, sub8_z] at hf
  rw [SubEffect, hc]
  refine ⟨?_, hf⟩
  cases keep with
  | true => exact ha
  | false => exact (congrArg (fun a : Byte => (a.toNat : Int)) ha).trans (sub8_value_toInt s.a v cin)

/-- A bitwise operation clears N and C, and its H is constant. -/
theorem logicEffect {f : Bool → Bool → Bool} {value : Byte} {h : Bool} (hv : ∀ k, value.getLsbD k = f (s.a.getLsbD k) (v.getLsbD k))
    (ha : t.a = value) (hf : ResFlags t ⟨value, value == 0, false, h, false⟩) : LogicEffect f h s t v := by
  rw [LogicEffect, ha]
  exact ⟨fun k _ => hv k, hf⟩

end Effects

end Sys2Proof.Claims

/-! ## The statements -/

namespace Sys2Proof.Proofs

open Sys2Proof.Machine Sys2Proof.Claims

/-- Settles O43: both are `add8`, on the carry-in 0 or C. -/
theorem addAndAdc : Obligations.AddAndAdc :=
  ⟨aluForms fun _ _ _ => addEffect (cin := false) rfl, aluForms fun s _ _ => addEffect (carryIn_eq s)⟩

/-- Settles O44: the three are `sub8`, on the borrow-in 0 or C; CP keeps A. -/
theorem subSbcAndCp : Obligations.SubSbcAndCp :=
  ⟨aluForms fun _ _ _ => subEffect (keep := false) (cin := false) rfl, aluForms fun s _ _ => subEffect (keep := false) (carryIn_eq s),
    aluForms fun _ _ _ => subEffect (keep := true) (cin := false) rfl⟩

/-- Settles O45: bit `k` of a bitwise result is the operation on the bits `k`. -/
theorem logicOperations : Obligations.LogicOperations :=
  ⟨aluForms fun _ _ _ => logicEffect fun _ => BitVec.getLsbD_and, aluForms fun _ _ _ => logicEffect fun _ => BitVec.getLsbD_xor,
    aluForms fun _ _ _ => logicEffect fun _ => BitVec.getLsbD_or⟩

/-- Settles O46: one register or one byte of memory is written, and the flags but C. -/
theorem incAndDec8 : Obligations.IncAndDec8 := by
  refine ⟨fun r => ⟨p1_mkInc r, fun s => ?_⟩, ⟨.of_decodeOp (fun _ _ => rfl) rfl rfl, fun s => ?_⟩,
    fun r => ⟨p1_mkDec r, fun s => ?_⟩, .of_decodeOp (fun _ _ => rfl) rfl rfl, fun s => ?_⟩
  · exact ⟨_, exec_mkInc r s, by simp [inc8_value_toNat], flags_inc8 .., by simp, by simp, (frame_setReg s 4 r _).setFlags _ _ _ _⟩
  · exact ⟨_, rfl, flags_inc8 .., by simp, by simp, (frame_writeByte s 12 s.hl _).setFlags _ _ _ _⟩
  · exact ⟨_, exec_mkDec r s, by simp [dec8_value_toNat], flags_dec8 .., by simp, by simp, (frame_setReg s 4 r _).setFlags _ _ _ _⟩
  · exact ⟨_, rfl, flags_dec8 .., by simp, by simp, (frame_writeByte s 12 s.hl _).setFlags _ _ _ _⟩

/-- Settles O47: HL or SP is written, and the flags of `add16` and `addSPe`. -/
theorem addHLAndAddSP : Obligations.AddHLAndAddSP := by
  refine ⟨fun p => ⟨p1_mkAddHL p, fun s => ?_⟩, .of_decodeOp (fun _ _ => rfl) rfl fun _ => rfl, fun e s => ?_⟩
  · have hhl : (s.setHL (add16 s.hl (s.pair p)).value).hl.toNat = (s.hl.toNat + (s.pair p).toNat) % 65536 := by
      rw [State.hl_setHL, add16, BitVec.toNat_add]
    exact ⟨_, exec_mkAddHL p s, hhl, flags_setFlags_withCycles .., rfl, rfl, frame_setHL_setFlags s 8 _ _ _ _ _⟩
  · exact ⟨_, rfl, congrArg (s.sp + ·) (sext16_eq_signExtend e), flags_setFlags_withCycles .., rfl,
      (frame_setPair s 16 .sp (addSPe s.sp e).value).setFlags _ _ _ _⟩

/-- Settles O48: one pair is written. -/
theorem incAndDecPair : Obligations.IncAndDecPair := by
  have hsp (s : State) (p : Pair) (v : Word) (hp : p ≠ .sp) : (s.setPair p v).sp = s.sp :=
    s.pair_setPair_ne v hp.symm
  have hpair (s : State) (p : Pair) (v : Word) : ((s.setPair p v).withCycles 8).pair p = v := s.pair_setPair_self p v
  refine fun p => ⟨⟨p1_mkIncPair p, fun s => ?_⟩, p1_mkDecPair p, fun s => ?_⟩
  · exact ⟨_, exec_mkIncPair p s, hpair s p _, by simp, hsp s p _, by simp, frame_setPair s 8 p _⟩
  · exact ⟨_, exec_mkDecPair p s, hpair s p _, by simp, hsp s p _, by simp, frame_setPair s 8 p _⟩

end Sys2Proof.Proofs
end

section
/-! The proofs of the statements about rotates, shifts and bits (42_bit_rotate.md): what the rotate and shift unit computes, as
naturals, what RES and SET do to each bit, and each form from the encoding and the frame of its shared operation. -/

namespace Sys2Proof.Machine

open Sys2Proof.Claims

/-! ## The rotate and shift unit -/

section Shift

variable (v : Byte)

theorem shl_one_toNat : (v <<< 1).toNat = 2 * v.toNat % 256 := by
  rw [BitVec.toNat_shiftLeft, Nat.shiftLeft_eq, Nat.mul_comm]

/-- Only bit 0 stays in the byte when it moves seven places up. -/
theorem shl_seven_toNat : (v <<< 7).toNat = 128 * (v.toNat % 2) := by
  rw [BitVec.toNat_shiftLeft, Nat.shiftLeft_eq]
  omega

theorem shr_one_toNat : (v >>> 1).toNat = v.toNat / 2 :=
  (BitVec.toNat_ushiftRight v 1).trans (Nat.shiftRight_eq_div_pow v.toNat 1)

theorem shr_four_toNat : (v >>> 4).toNat = v.toNat / 16 :=
  (BitVec.toNat_ushiftRight v 4).trans (Nat.shiftRight_eq_div_pow v.toNat 4)

theorem shr_seven_toNat : (v >>> 7).toNat = v.toNat / 128 :=
  (BitVec.toNat_ushiftRight v 7).trans (Nat.shiftRight_eq_div_pow v.toNat 7)

theorem getLsbD_seven : v.getLsbD 7 = (v.toNat / 128 == 1) := by
  have hv := v.isLt
  rw [BitVec.getLsbD, Nat.testBit_eq_decide_div_mod_eq, Bool.eq_iff_iff, decide_eq_true_iff, beq_iff_eq]
  omega

/-- The mask of bit 7 leaves that bit in its place. -/
theorem and_0x80_toNat : (v &&& 0x80).toNat = 128 * (v.toNat / 128) := by
  have hv := v.isLt
  have hmask : v &&& 0x80 = if v.getLsbD 7 = true then 0x80 else 0 := BitVec.and_twoPow v 7
  have hbit : v.getLsbD 7 = true ↔ v.toNat / 128 = 1 := by rw [getLsbD_seven, beq_iff_eq]
  rw [hmask]
  by_cases h : v.toNat / 128 = 1
  · rw [if_pos (hbit.mpr h), h]
    decide
  · rw [if_neg (mt hbit.mp h), show v.toNat / 128 = 0 by omega]
    decide

theorem getLsbD_zero : v.getLsbD 0 = (v.toNat % 2 == 1) := Nat.testBit_zero v.toNat

/-- Bits joined at bit `k` add up, when all of `low` lies below it and all of `high` from there on. -/
theorem or_toNat_of_lt {high low : Byte} (k : Nat) (hh : 2 ^ k ∣ high.toNat) (hl : low.toNat < 2 ^ k) :
    (high ||| low).toNat = high.toNat + low.toNat := by
  obtain ⟨n, hn⟩ := hh
  rw [BitVec.toNat_or, hn, Nat.two_pow_add_eq_or_of_lt hl]

/-- A left shift, with a bit that enters at bit 0. -/
theorem shl_one_or_toNat {low : Byte} (hl : low.toNat < 2) : (v <<< 1 ||| low).toNat = 2 * v.toNat % 256 + low.toNat := by
  rw [or_toNat_of_lt 1 (by rw [shl_one_toNat]; omega) hl, shl_one_toNat]

/-- A right shift, with a bit that enters at bit 7. -/
theorem shr_one_or_toNat {high : Byte} (hh : 128 ∣ high.toNat) : (v >>> 1 ||| high).toNat = v.toNat / 2 + high.toNat := by
  have hv := v.isLt
  rw [BitVec.or_comm, or_toNat_of_lt 7 hh (by rw [shr_one_toNat]; omega), shr_one_toNat, Nat.add_comm]

theorem swap_toNat : ((v &&& 0x0F) <<< 4 ||| v >>> 4).toNat = v.toNat % 16 * 16 + v.toNat / 16 := by
  have hv := v.isLt
  have hhigh : ((v &&& 0x0F) <<< 4).toNat = v.toNat % 16 * 16 := by
    rw [BitVec.toNat_shiftLeft, and_0x0F_toNat, Nat.shiftLeft_eq]
    omega
  rw [or_toNat_of_lt 4 (by omega) (by rw [shr_four_toNat]; omega), hhigh, shr_four_toNat]

theorem shift_value_toNat (op : ShiftOp) (c : Bool) : (shift op v c).1.toNat = (shifted op v.toNat c.toNat).1 := by
  have hv := v.isLt
  have hc := c.toNat_le
  cases op with
  | rlc => exact (shl_one_or_toNat v (by rw [shr_seven_toNat]; omega)).trans (by rw [shr_seven_toNat]; rfl)
  | rrc => exact (shr_one_or_toNat v (by rw [shl_seven_toNat]; omega)).trans (by rw [shl_seven_toNat]; rfl)
  | rl => exact (shl_one_or_toNat v (by rw [bitByte_toNat]; omega)).trans (by rw [bitByte_toNat]; rfl)
  | rr =>
    have hbit : (bitByte c <<< 7).toNat = 128 * c.toNat := by cases c <;> rfl
    exact (shr_one_or_toNat v (by omega)).trans (by rw [hbit]; rfl)
  | sla => exact shl_one_toNat v
  | sra => exact (shr_one_or_toNat v (by rw [and_0x80_toNat]; omega)).trans (by rw [and_0x80_toNat]; rfl)
  | swap => exact swap_toNat v
  | srl => exact shr_one_toNat v

/-- The carry-out is the bit that leaves the byte: bit 7 to the left, bit 0 to the right, none under SWAP. -/
theorem shift_carry (op : ShiftOp) (c : Bool) : (shift op v c).2 = (shifted op v.toNat c.toNat).2 := by
  cases op with
  | rlc | rl | sla => exact getLsbD_seven v
  | rrc | rr | sra | srl => exact getLsbD_zero v
  | swap => rfl

/-- The zero flag of a byte is that of its natural. -/
theorem toNat_beq_zero : (v.toNat == 0) = (v == 0) := by
  rw [Bool.eq_iff_iff, beq_iff_eq, beq_iff_eq, ← BitVec.toNat_inj]
  rfl

/-- R310: the unit computes `Shift(op, v, c)` as the statements read it on naturals, with C as the carry-in. -/
theorem shifted_eq (op : ShiftOp) (s : State) :
    shifted op v.toNat (carryIn s) = ((shift op v s.cf).1.toNat, (shift op v s.cf).2) := by
  rw [carryIn_eq, shift_value_toNat, shift_carry]

end Shift

/-! ## The single-bit operations -/

section Bits

variable (b : Fin 8) (v : Byte) {k : Nat}

/-- The mask of bit `b`. -/
theorem getLsbD_bitMask : (1#8 <<< b.val).getLsbD k = decide (k = b.val) := by
  rw [← BitVec.twoPow_eq, BitVec.getLsbD_twoPow]
  simp [eq_comm]

theorem getLsbD_resetBit (hk : k < 8) : (resetBit b v).getLsbD k = if k = b.val then false else v.getLsbD k := by
  rw [resetBit, BitVec.getLsbD_and, BitVec.getLsbD_not, getLsbD_bitMask]
  by_cases hb : k = b.val <;> simp [hb, hk]

theorem getLsbD_setBit : (setBit b v).getLsbD k = if k = b.val then true else v.getLsbD k := by
  rw [setBit, BitVec.getLsbD_or, getLsbD_bitMask]
  by_cases hb : k = b.val <;> simp [hb]

end Bits

end Sys2Proof.Machine

namespace Sys2Proof.Claims

open Sys2Proof.Machine

/-! ## The encodings of the extended forms -/

/-- Every slot of the extended table is an instruction (R157). -/
theorem isIllegal_decodeExtended : ∀ op2 : Byte, (decodeExtended op2).isIllegal = false := Byte.of_digits (by decide)

theorem X2.of_decodeExtended {op2 : Nat} {i : Instr} (hd : decodeExtended (BitVec.ofNat 8 op2) = i) : X2 op2 i :=
  ⟨fun _ => hd, .of_decodeOp (op := 0xCB) (n1 := BitVec.ofNat 8 op2) (n2 := 0) hd rfl (hd ▸ isIllegal_decodeExtended _)⟩

section Encodings

variable (op : ShiftOp) (b : Fin 8) (r : Reg8)

theorem x2_mkShiftReg : X2 (8 * shiftCode op + regCode r) (mkShiftReg op r) := by
  cases op <;> cases r <;> exact .of_decodeExtended rfl

theorem x2_mkShiftHL : X2 (8 * shiftCode op + 6) (mkShiftHL op) := by
  cases op <;> exact .of_decodeExtended rfl

theorem x2_mkBitReg : X2 (0x40 + 8 * b.val + regCode r) (mkBitReg b r) :=
  .of_decodeExtended (by cases r <;> decide +revert)

theorem x2_mkBitHL : X2 (0x46 + 8 * b.val) (mkBitHL b) := .of_decodeExtended (by decide +revert)

theorem x2_mkResReg : X2 (0x80 + 8 * b.val + regCode r) (mkResReg b r) :=
  .of_decodeExtended (by cases r <;> decide +revert)

theorem x2_mkResHL : X2 (0x86 + 8 * b.val) (mkResHL b) := .of_decodeExtended (by decide +revert)

theorem x2_mkSetReg : X2 (0xC0 + 8 * b.val + regCode r) (mkSetReg b r) :=
  .of_decodeExtended (by cases r <;> decide +revert)

theorem x2_mkSetHL : X2 (0xC6 + 8 * b.val) (mkSetHL b) := .of_decodeExtended (by decide +revert)

end Encodings

/-! ## The shared operations -/

theorem frame_withCycles (s : State) (n : Nat) : Frame [] [] n s (s.withCycles n) :=
  .of_writes n (by constructor <;> rfl) (fun _ _ => rfl) (by simp [ControlKept])

section Forms

variable {i : Instr}

theorem rotatesAccumulator {op : ShiftOp} (h : ∀ s, exec i s = rotateA op s) : RotatesAccumulator i op := by
  intro s
  rw [shifted_eq]
  exact ⟨_, h s, rfl, flags_setFlags_withCycles .., rfl, rfl, (frame_setReg s 4 .a _).setFlags _ _ _ _⟩

theorem testsBit {b : Fin 8} {v : State → Byte} {n : Nat} (h : ∀ s, exec i s = (s.setBitFlags b (v s)).retire n) :
    TestsBit i b.val v n := by
  intro s
  rw [beq_false]
  have hs := h s
  rw [State.setBitFlags_eq] at hs
  exact ⟨_, hs, flags_setFlags_withCycles .., rfl, rfl, (frame_withCycles s n).setFlags _ _ _ _⟩

/-- RES and SET of a register: one bit of it becomes `bit`. -/
theorem writesBit_reg {s : State} {r : Reg8} {v : Byte} {b : Fin 8} {bit : Bool} (h : exec i s = (s.setReg r v).retire 8)
    (hv : ∀ k < 8, v.getLsbD k = if k = b.val then bit else (s.reg r).getLsbD k) :
    ∃ t, exec i s = .next t ∧ (∀ k < 8, (t.reg r).getLsbD k = if k = b.val then bit else (s.reg r).getLsbD k) ∧
      FlagsSpPcKept s t ∧ Frame [r] [] 8 s t :=
  ⟨_, h, by simpa using hv, by simp [FlagsSpPcKept], frame_setReg s 8 r v⟩

/-- RES and SET of the byte at HL. -/
theorem writesBit_mHL {s : State} {v : Byte} (h : exec i s = (s.writeByte s.hl v).retire 16) :
    ∃ t, exec i s = .next t ∧ FlagsSpPcKept s t ∧ Frame [] [(s.hl, v)] 16 s t :=
  ⟨_, h, by simp [FlagsSpPcKept], frame_writeByte s 16 s.hl v⟩

end Forms

end Sys2Proof.Claims

/-! ## The statements -/

namespace Sys2Proof.Proofs

open Sys2Proof.Machine Sys2Proof.Claims

/-- Settles O49: the four are `rotateA`. -/
theorem accumulatorRotates : Obligations.AccumulatorRotates :=
  ⟨⟨.of_decodeOp (fun _ _ => rfl) rfl rfl, rotatesAccumulator fun _ => rfl⟩,
    ⟨.of_decodeOp (fun _ _ => rfl) rfl rfl, rotatesAccumulator fun _ => rfl⟩,
    ⟨.of_decodeOp (fun _ _ => rfl) rfl rfl, rotatesAccumulator fun _ => rfl⟩,
    .of_decodeOp (fun _ _ => rfl) rfl rfl, rotatesAccumulator fun _ => rfl⟩

/-- Settles O50: one register takes the result of `shift`, whose zero flag is that of the register. -/
theorem shiftRegister : Obligations.ShiftRegister := by
  refine fun op r => ⟨x2_mkShiftReg op r, fun s => ?_⟩
  rw [shifted_eq]
  refine ⟨_, exec_mkShiftReg op r s, by simp, ?_, by simp, by simp, (frame_setReg s 8 r _).setFlags _ _ _ _⟩
  simp [flags_setFlags_withCycles]

/-- Settles O51: the byte at HL takes the result of `shift`. -/
theorem shiftMemory : Obligations.ShiftMemory := by
  refine fun op => ⟨x2_mkShiftHL op, fun s => ?_⟩
  rw [shifted_eq]
  refine ⟨_, exec_mkShiftHL op s, ⟨BitVec.isLt _, ?_, ?_⟩, by simp, by simp⟩
  · rw [toNat_beq_zero]
    exact flags_setFlags_withCycles ..
  · rw [BitVec.ofNat_toNat, BitVec.setWidth_eq]
    exact (frame_writeByte s 16 s.hl _).setFlags _ _ _ _

/-- Settles O52: both forms write the flags alone. -/
theorem bitTest : Obligations.BitTest := fun b =>
  ⟨fun r => ⟨x2_mkBitReg b r, testsBit (exec_mkBitReg b r)⟩, x2_mkBitHL b, testsBit (exec_mkBitHL b)⟩

/-- Settles O53: one register or one byte of memory is written, with one bit changed. -/
theorem resAndSet : Obligations.ResAndSet := fun b =>
  ⟨fun r => ⟨x2_mkResReg b r, fun s => writesBit_reg (exec_mkResReg b r s) fun _ hk => getLsbD_resetBit b _ hk⟩,
    ⟨x2_mkResHL b, fun s => writesBit_mHL (exec_mkResHL b s)⟩,
    fun r => ⟨x2_mkSetReg b r, fun s => writesBit_reg (exec_mkSetReg b r s) fun _ _ => getLsbD_setBit b _⟩,
    x2_mkSetHL b, fun s => writesBit_mHL (exec_mkSetHL b s)⟩

end Sys2Proof.Proofs
end

section
/-! The proofs of the statements about control flow (43_control.md): each form is one of the shared operations, which the rules
below read once, with a condition that decides between the operation and nothing but the shorter cycle count. -/

namespace Sys2Proof.Machine

open Sys2Proof.Claims

/-! ## Conditions -/

/-- The model evaluates a condition as the statements read it (R149). -/
theorem condHolds_eq_cond (s : State) (cc : Cond) : condHolds s cc = s.cond cc := by
  cases cc with
  | nz => exact beq_false s.zf
  | z => exact beq_true s.zf
  | nc => exact beq_false s.cf
  | c => exact beq_true s.cf

section Conditional

variable (s : State) (cc : Cond)

/-- A jump that is not taken goes to where PC stands (R350). -/
theorem jumpIf_eq_jump (v : Word) :
    jumpIf cc v s = jump (if condHolds s cc then v else s.pc) (if condHolds s cc then 16 else 12) s := by
  rw [condHolds_eq_cond, jumpIf]
  split <;> rfl

/-- The base of a relative jump is PC past the instruction (R364). -/
theorem jumpRel_eq_jump (e : Byte) : jumpRel e s = jump (s.pc + e.signExtend 16) 12 s := by
  rw [jumpRel, sext16_eq_signExtend]

theorem jumpRelIf_eq_jump (e : Byte) :
    jumpRelIf cc e s = jump (if condHolds s cc then s.pc + e.signExtend 16 else s.pc) (if condHolds s cc then 12 else 8) s := by
  rw [condHolds_eq_cond, jumpRelIf, jumpRel_eq_jump]
  split <;> rfl

variable {s cc}

theorem callIf_of_holds (h : condHolds s cc = true) (v : Word) : callIf cc v s = call v 24 s := by
  rw [callIf, ← condHolds_eq_cond, if_pos h]

theorem callIf_of_fails (h : condHolds s cc = false) (v : Word) : callIf cc v s = s.retire 12 := by
  rw [callIf, ← condHolds_eq_cond, if_neg (ne_true_of_eq_false h)]

theorem retIf_of_holds (h : condHolds s cc = true) : retIf cc s = ret 20 s := by
  rw [retIf, ← condHolds_eq_cond, if_pos h]

theorem retIf_of_fails (h : condHolds s cc = false) : retIf cc s = s.retire 8 := by
  rw [retIf, ← condHolds_eq_cond, if_neg (ne_true_of_eq_false h)]

end Conditional

/-! ## The return from an interrupt -/

/-- R362: the parameter decides which of IME and its pending value becomes 1; the other is as before. -/
theorem State.returnFromInterrupt_eq (s : State) :
    s.returnFromInterrupt = { s.popSp with
      pc := s.popValue
      ime := if s.cfg.retiImmediate then true else s.ime
      imePending := if s.cfg.retiImmediate then s.imePending else some true } := by
  rw [State.returnFromInterrupt]
  cases s.cfg.retiImmediate <;> rfl

theorem State.sameMemory_returnFromInterrupt (s : State) (n : Nat) : SameMemory s (s.returnFromInterrupt.withCycles n) := by
  rw [State.returnFromInterrupt_eq]
  constructor <;> rfl

end Sys2Proof.Machine

namespace Sys2Proof.Claims

open Sys2Proof.Machine

/-! ## The encodings of the conditional forms and of RST -/

section Encodings

variable (cc : Cond)

theorem p3_mkJpCond : P3 (0xC2 + 8 * condCode cc) (fun v => mkJpCond v cc) := by
  cases cc <;> exact .of_decodeOp (fun _ _ => rfl) rfl fun _ => rfl

theorem p2_mkJrCond : P2 (0x20 + 8 * condCode cc) (fun e => mkJrCond e cc) := by
  cases cc <;> exact .of_decodeOp (fun _ _ => rfl) rfl fun _ => rfl

theorem p3_mkCallCond : P3 (0xC4 + 8 * condCode cc) (fun v => mkCallCond v cc) := by
  cases cc <;> exact .of_decodeOp (fun _ _ => rfl) rfl fun _ => rfl

theorem p1_mkRetCond : P1 (0xC0 + 8 * condCode cc) (mkRetCond cc) := by
  cases cc <;> exact .of_decodeOp (fun _ _ => rfl) rfl rfl

theorem p1_mkRst (y : Fin 8) : P1 (0xC7 + 8 * y.val) (mkRst y) := by
  match y with
  | 0 | 1 | 2 | 3 | 4 | 5 | 6 | 7 => exact .of_decodeOp (fun _ _ => rfl) rfl rfl

end Encodings

/-! ## The shared operations -/

/-- A frame says nothing of PC, so that it holds as well of an instruction that also goes elsewhere. -/
theorem Frame.setPc {but : List Reg8} {ws : List (Word × Byte)} {n : Nat} {s t : State} (hf : Frame but ws n s (t.withCycles n))
    (v : Word) : Frame but ws n s (({ t with pc := v } : State).withCycles n) := by
  obtain ⟨hregs, hcontrol, hhost, hstores, -⟩ := hf
  exact ⟨hregs, hcontrol, hhost, hstores.sameMemory (by constructor <;> rfl), rfl⟩

theorem frame_popSp (s : State) (n : Nat) : Frame [] [] n s (s.popSp.withCycles n) :=
  .of_writes n (by constructor <;> rfl) (fun r _ => s.reg_popSp r) (by simp [ControlKept])

section Forms

variable {i : Instr} {s : State} {n : Nat}

theorem jumpsTo {target : Word} (h : exec i s = jump target n s) :
    ∃ t, exec i s = .next t ∧ t.pc = target ∧ t.f = s.f ∧ t.sp = s.sp ∧ Frame [] [] n s t :=
  ⟨_, h, rfl, rfl, rfl, (frame_withCycles s n).setPc target⟩

theorem callsTo {target : Word} (h : exec i s = call target n s) : CallsTo i target n s :=
  ⟨_, h, rfl, rfl, s.push16_f s.pc, (frame_push16 s n s.pc).setPc target⟩

theorem popsPc (h : exec i s = ret n s) :
    ∃ t, exec i s = .next t ∧ t.pc = join (s.readByte (s.sp + 1)) (s.readByte s.sp) ∧ t.sp = s.sp + 2 ∧ t.f = s.f ∧
      Frame [] [] n s t :=
  ⟨_, h, rfl, rfl, rfl, (frame_popSp s n).setPc s.popValue⟩

/-- A form that is not taken (R350). -/
theorem onlyRetires (h : exec i s = s.retire n) : ∃ t, exec i s = .next t ∧ FlagsSpPcKept s t ∧ Frame [] [] n s t :=
  ⟨_, h, ⟨rfl, rfl, rfl⟩, frame_withCycles s n⟩

end Forms

end Sys2Proof.Claims

/-! ## The statements -/

namespace Sys2Proof.Proofs

open Sys2Proof.Machine Sys2Proof.Claims

/-- Settles O54: the five are `jump`, to PC itself when the condition fails. -/
theorem jumps : Obligations.Jumps :=
  ⟨⟨.of_decodeOp (fun _ _ => rfl) rfl fun _ => rfl, fun _ _ => jumpsTo rfl⟩,
    fun cc => ⟨p3_mkJpCond cc, fun v s => jumpsTo ((exec_mkJpCond v cc s).trans (jumpIf_eq_jump s cc v))⟩,
    ⟨.of_decodeOp (fun _ _ => rfl) rfl rfl, fun _ => jumpsTo rfl⟩,
    ⟨.of_decodeOp (fun _ _ => rfl) rfl fun _ => rfl, fun e s => jumpsTo (jumpRel_eq_jump s e)⟩,
    fun cc => ⟨p2_mkJrCond cc, fun e s => jumpsTo ((exec_mkJrCond e cc s).trans (jumpRelIf_eq_jump s cc e))⟩⟩

/-- Settles O55: the three are `call`, but for the CALL cc whose condition fails. -/
theorem calls : Obligations.Calls := by
  refine ⟨⟨.of_decodeOp (fun _ _ => rfl) rfl fun _ => rfl, fun _ _ => callsTo rfl⟩,
    fun cc => ⟨p3_mkCallCond cc, fun v s => ⟨fun h => ?_, fun h => ?_⟩⟩,
    fun y => ⟨p1_mkRst y, fun s => callsTo (exec_mkRst y s)⟩⟩
  · exact callsTo ((exec_mkCallCond v cc s).trans (callIf_of_holds h v))
  · exact onlyRetires ((exec_mkCallCond v cc s).trans (callIf_of_fails h v))

/-- Settles O56: RET and the taken RET cc are `ret`; RETI pops as they do, and writes IME or its pending value. -/
theorem returns : Obligations.Returns := by
  refine ⟨⟨.of_decodeOp (fun _ _ => rfl) rfl rfl, fun _ => popsPc rfl⟩,
    fun cc => ⟨p1_mkRetCond cc, fun s => ⟨fun h => ?_, fun h => ?_⟩⟩,
    .of_decodeOp (fun _ _ => rfl) rfl rfl, fun s => ?_⟩
  · exact popsPc ((exec_mkRetCond cc s).trans (retIf_of_holds h))
  · exact onlyRetires ((exec_mkRetCond cc s).trans (retIf_of_fails h))
  · have hexec : exec .reti s = s.returnFromInterrupt.retire 16 := rfl
    have hmem := s.sameMemory_returnFromInterrupt 16
    rw [State.returnFromInterrupt_eq] at hexec hmem
    refine ⟨_, hexec, rfl, rfl, rfl, fun h => ⟨if_pos h, if_pos h⟩, fun h => ?_, rfl, rfl, rfl, fun _ _ => rfl,
      hmem.hostKept, (stores_writeAll s []).sameMemory hmem, rfl⟩
    exact ⟨if_neg (ne_true_of_eq_false h), if_neg (ne_true_of_eq_false h)⟩

end Sys2Proof.Proofs
end

section
/-! The proofs of the statements about the special group (44_special.md): the decimal adjustment on naturals, then the instructions
that write the flags, alone or with A. -/

namespace Sys2Proof.Machine

/-! ## The decimal adjustment -/

section Daa

variable (a : Byte) (n h c : Bool)

/-- The high adjustment of R391 applies. -/
def adjustsHigh : Bool := c || (!n && decide (a.toNat > 0x99))

/-- The low adjustment of R391 applies. -/
def adjustsLow : Bool := h || (!n && decide (a.toNat % 16 > 0x09))

/-- The amount by which R391 adjusts A. -/
def adjustAmount : Nat := (if adjustsHigh a n c then 0x60 else 0) + (if adjustsLow a n h then 0x06 else 0)

/-- After a subtraction C alone decides the high adjustment. -/
theorem adjustsHigh_of_sub : adjustsHigh a true c = c := Bool.or_false c

/-- After a subtraction H alone decides the low adjustment. -/
theorem adjustsLow_of_sub : adjustsLow a true h = h := Bool.or_false h

theorem daa_z : (daa a n h c).z = ((daa a n h c).value == 0) := by cases n <;> rfl

theorem daa_n : (daa a n h c).n = n := by cases n <;> rfl

theorem daa_h : (daa a n h c).h = false := by cases n <;> rfl

theorem daa_c : (daa a n h c).c = adjustsHigh a n c := by
  cases n with
  | true => exact (adjustsHigh_of_sub a c).symm
  | false => rfl

/-- The high adjustment leaves the low digit alone, so that the low adjustment may be decided on the old A. -/
theorem low_digit_of_high_adjusted (high : Bool) : (if high then a + 0x60 else a).toNat % 16 = a.toNat % 16 := by
  split <;> bv_omega

theorem daa_value_toNat_of_sub : (daa a true h c).value.toNat = (a.toNat + 256 - adjustAmount a true h c) % 256 := by
  rw [adjustAmount, adjustsHigh_of_sub, adjustsLow_of_sub, daa, if_pos rfl]
  split <;> split <;> bv_omega

theorem daa_value_toNat_of_add : (daa a false h c).value.toNat = (a.toNat + adjustAmount a false h c) % 256 := by
  have hvalue : (daa a false h c).value =
      if adjustsLow a false h then (if adjustsHigh a false c then a + 0x60 else a) + 0x06
      else if adjustsHigh a false c then a + 0x60 else a := by
    rw [daa, if_neg Bool.false_ne_true]
    simp only [low_digit_of_high_adjusted]
    rfl
  rw [hvalue, adjustAmount]
  split <;> split <;> bv_omega

theorem daa_value_toNat : (daa a n h c).value.toNat =
    (if n then a.toNat + 256 - adjustAmount a n h c else a.toNat + adjustAmount a n h c) % 256 := by
  cases n with
  | true => exact daa_value_toNat_of_sub a h c
  | false => exact daa_value_toNat_of_add a h c

end Daa

end Sys2Proof.Machine

namespace Sys2Proof.Claims

open Sys2Proof.Machine

/-! ## The instructions that write the flags, alone or with A -/

section Forms

variable {i : Instr} {s : State} {z n h c : Bool} {cycles : Nat}

theorem writesFlags (hexec : exec i s = (s.setFlags z n h c).retire cycles) :
    ∃ t, exec i s = .next t ∧ Flags t z n h c ∧ t.sp = s.sp ∧ t.pc = s.pc ∧ Frame [] [] cycles s t :=
  ⟨_, hexec, flags_setFlags_withCycles .., rfl, rfl, (frame_withCycles s cycles).setFlags z n h c⟩

theorem writesAccumulatorAndFlags {v : Byte} (hexec : exec i s = ((s.setReg .a v).setFlags z n h c).retire cycles) :
    ∃ t, exec i s = .next t ∧ t.a = v ∧ Flags t z n h c ∧ t.sp = s.sp ∧ t.pc = s.pc ∧ Frame [.a] [] cycles s t :=
  ⟨_, hexec, rfl, flags_setFlags_withCycles .., rfl, rfl, (frame_setReg s cycles .a v).setFlags z n h c⟩

end Forms

end Sys2Proof.Claims

/-! ## The statements -/

namespace Sys2Proof.Proofs

open Sys2Proof.Machine Sys2Proof.Claims

/-- Settles O57: NOP only retires, SCF and CCF write the flags alone, and CPL also writes A. -/
theorem nopAndFlagGroup : Obligations.NopAndFlagGroup := by
  refine ⟨⟨.of_decodeOp (fun _ _ => rfl) rfl rfl, fun _ => onlyRetires rfl⟩,
    ⟨.of_decodeOp (fun _ _ => rfl) rfl rfl, fun s => ?_⟩,
    ⟨.of_decodeOp (fun _ _ => rfl) rfl rfl, fun _ => writesFlags rfl⟩,
    .of_decodeOp (fun _ _ => rfl) rfl rfl, fun _ => writesFlags rfl⟩
  obtain ⟨t, hexec, ha, hrest⟩ := writesAccumulatorAndFlags (i := .cpl) (s := s) (v := ~~~s.a) rfl
  exact ⟨t, hexec, ha ▸ BitVec.toNat_not, hrest⟩

/-- Settles O58: A and the flags are those of `daa`, which decides its low adjustment after the high one, on the same low digit. -/
theorem decimalAdjust : Obligations.DecimalAdjust := by
  refine ⟨.of_decodeOp (fun _ _ => rfl) rfl rfl, fun s => ?_⟩
  obtain ⟨t, hexec, ha, hflags, hrest⟩ :=
    writesAccumulatorAndFlags (i := .daa) (s := s) (v := (daa s.a s.nf s.hf s.cf).value) rfl
  rw [daa_z, daa_n, daa_h, daa_c, ← ha] at hflags
  exact ⟨t, hexec, ⟨ha ▸ daa_value_toNat s.a s.nf s.hf s.cf, hflags⟩, hrest⟩

end Sys2Proof.Proofs
end

section
/-! The proofs of the statements about exceptions (60_exceptions.md): which of its branches a step takes, the eleven illegal bytes,
and interrupt entry with its three byte writes. -/

namespace Sys2Proof.Machine

open Sys2Proof.Claims

/-! ## The branch a step takes -/

section Branches

variable {s : State}

/-- A step of a block that is loaded and not faulted (R140 lines 1 to 6). -/
theorem step_of_ready (h : Ready s) : step s =
    if s.idles then .next s.idle
    else if s.interruptDue then .next s.interruptEntry
    else exec s.fetchInstr (s.issue s.fetchInstr) := by
  obtain ⟨hrom0, hfailed, hfault⟩ := h
  rw [step_eq]
  simp [hrom0, hfailed, hfault]

/-- A faulted block takes no step (R140 line 0). -/
theorem step_of_fault {trap : Trap} (hrom0 : s.loader.rom0 = true) (hfailed : s.loader.failed = false) (hfault : s.fault = some trap) :
    step s = .fault (.illegalOpcode trap.opcode trap.pc) := by
  rw [step_eq]
  simp [hrom0, hfailed, hfault]

theorem State.interruptDue_eq_true_iff :
    s.interruptDue = true ↔ s.cfg.interruptDispatch = true ∧ s.ime = true ∧ request s ≠ 0 := by
  simp only [State.interruptDue, Bool.and_eq_true, bne_iff_ne]
  exact Iff.rfl

/-- Neither a Running block nor a Halted one with a request is idle (R140 lines 2 and 3). -/
theorem State.idles_eq_false (h : s.mode = .running ∨ s.mode = .halted ∧ request s ≠ 0) : s.idles = false := by
  obtain hm | ⟨hm, hreq⟩ := h
  · simp [State.idles, hm]
  · rw [State.idles, hm]
    exact beq_false_of_ne hreq

theorem step_of_runsInstruction (h : RunsInstruction s) : step s = exec s.fetchInstr (s.issue s.fetchInstr) := by
  obtain ⟨hready, hmode, hdue⟩ := h
  rw [step_of_ready hready, if_neg (ne_true_of_eq_false (State.idles_eq_false hmode)),
    if_neg (mt State.interruptDue_eq_true_iff.mp hdue)]

theorem step_of_entersInterrupt (h : EntersInterrupt s) : step s = .next s.interruptEntry := by
  obtain ⟨hready, hstopped, hdispatch, hime, hreq⟩ := h
  have hmode : s.mode = .running ∨ s.mode = .halted ∧ request s ≠ 0 := by
    cases hm : s.mode with
    | running => exact .inl rfl
    | halted => exact .inr ⟨rfl, hreq⟩
    | stopped => exact absurd hm hstopped
  rw [step_of_ready hready, if_neg (ne_true_of_eq_false (State.idles_eq_false hmode)),
    if_pos (State.interruptDue_eq_true_iff.mpr ⟨hdispatch, hime, hreq⟩)]

end Branches

/-! ## The fault -/

/-- No byte write records a fault: no address faults (R422). -/
@[simp] theorem State.fault_writeAll (s : State) (ws : List (Word × Byte)) : (s.writeAll ws).fault = s.fault := by
  induction ws generalizing s with
  | nil => rfl
  | cons w ws ih => rw [State.writeAll, ih, State.writeByte_fault]

theorem Effect.fault_eq {i : Instr} {s t : State} (h : Effect i s t) : t.fault = s.fault := by
  obtain ⟨ws, hs⟩ := h.store
  rw [hs.fault, State.fault_writeAll]

/-! ## The illegal bytes -/

section IllegalBytes

variable {op : Byte}

/-- The claim about each byte at one pair of operand bytes; `decodeOp_of_illegalByte` says that they do not matter. -/
theorem decodeOp_illegalByte_zero :
    ∀ op ∈ illegalBytes, lengthOf op = 1 ∧ (decodeOp op 0 0).isIllegal = true ∧ encode (decodeOp op 0 0) = [op] := by
  decide

/-- Each of the eleven bytes decodes to its own illegal row, whatever follows it (R155). -/
theorem decodeOp_of_illegalByte (hop : op ∈ illegalBytes) (n1 n2 : Byte) :
    (decodeOp op n1 n2).isIllegal = true ∧ encode (decodeOp op n1 n2) = [op] := by
  obtain ⟨hlen, hrow⟩ := decodeOp_illegalByte_zero op hop
  have hreads := decodeOp_readsBytes op
  rw [hlen] at hreads
  rwa [hreads.eq_of_one 0 0 n1 n2]

/-- Running an illegal byte records it and changes nothing else (R421). -/
theorem exec_of_illegalByte (hop : op ∈ illegalBytes) (n1 n2 : Byte) (s : State) :
    exec (decodeOp op n1 n2) s = .next (s.raiseIllegal op) := by
  obtain ⟨hillegal, henc⟩ := decodeOp_of_illegalByte hop n1 n2
  obtain ⟨op', henc', hexec⟩ := effect_illegal (decodeOp op n1 n2) s hillegal
  obtain rfl : op = op' := List.singleton_inj.mp (henc.symm.trans henc')
  exact hexec

theorem step_of_illegalByte {s : State} (hs : RunsInstruction s) (hop : s.readByte s.pc ∈ illegalBytes) :
    step s = .next (s.raiseIllegal (s.readByte s.pc)) := by
  have hillegal : s.fetchInstr.isIllegal = true := (decodeOp_of_illegalByte hop _ _).1
  rw [step_of_runsInstruction hs, s.issue_illegal hillegal]
  exact exec_of_illegalByte hop _ _ s

end IllegalBytes

/-! ## Interrupt entry -/

/-- The line that is entered is the lowest one whose bit is set (R427). -/
theorem lowestLine_eq {req : Byte} {n : Nat} (hn : n ≤ 4) (hset : req.getLsbD n = true) (hlow : ∀ m < n, req.getLsbD m = false) :
    lowestLine req = n := by
  match n with
  | 0 | 1 | 2 | 3 | 4 => simp (disch := omega) only [lowestLine, hset, hlow, if_true, Bool.false_eq_true, if_false]

section Entry

variable (s : State)

@[simp] theorem State.interruptEntry_pc : s.interruptEntry.pc = interruptVector (lowestLine s.req) := rfl
@[simp] theorem State.interruptEntry_sp : s.interruptEntry.sp = s.sp - 2 := by simp [State.interruptEntry]
@[simp] theorem State.interruptEntry_f : s.interruptEntry.f = s.f := by simp [State.interruptEntry]
@[simp] theorem State.interruptEntry_ime : s.interruptEntry.ime = false := by simp [State.interruptEntry]
@[simp] theorem State.interruptEntry_imePending : s.interruptEntry.imePending = none := by simp [State.interruptEntry]
@[simp] theorem State.interruptEntry_mode : s.interruptEntry.mode = .running := by simp [State.interruptEntry]
@[simp] theorem State.interruptEntry_haltBug : s.interruptEntry.haltBug = s.haltBug := by simp [State.interruptEntry]
@[simp] theorem State.interruptEntry_fault : s.interruptEntry.fault = s.fault := by simp [State.interruptEntry]
@[simp] theorem State.interruptEntry_out : s.interruptEntry.out = some (.ok 20) := rfl
@[simp] theorem State.reg_interruptEntry (r : Reg8) : s.interruptEntry.reg r = s.reg r := by
  cases r <;> simp [State.interruptEntry, State.reg]

/-- The three byte writes of interrupt entry to the line `n`, in their order (R425): IF, then PC onto the stack. -/
def State.entryWrites (n : Nat) : List (Word × Byte) :=
  [(addrIF, s.readByte addrIF &&& ~~~(1#8 <<< n)), (s.sp - 1, hiByte s.pc), (s.sp - 2, loByte s.pc)]

/-- A push is the same two writes whatever else the states differ in. -/
theorem SameMemory.push16 {s t : State} (h : SameMemory s t) (hsp : t.sp = s.sp) (v : Word) :
    SameMemory (s.writeAll [(s.sp - 1, hiByte v), (s.sp - 2, loByte v)]) (t.push16 v) := by
  rw [← hsp]
  exact (h.writeAll _).trans (t.push16_writes v)

theorem State.sameMemory_interruptEntry :
    SameMemory (s.writeAll (s.entryWrites (lowestLine s.req))) s.interruptEntry := by
  let cleared := s.writeByte addrIF (s.readByte addrIF &&& ~~~(1#8 <<< lowestLine s.req))
  let control : State := { cleared with mode := .running, ime := false, imePending := none }
  have hcontrol : SameMemory cleared control := by constructor <;> rfl
  have hsp : cleared.sp = s.sp := s.writeByte_sp ..
  have hpc : control.pc = s.pc := s.writeByte_pc ..
  have hentry : SameMemory (control.push16 control.pc) s.interruptEntry := by constructor <;> rfl
  have h := (hcontrol.push16 rfl control.pc).trans hentry
  rw [hsp, hpc] at h
  exact h

theorem State.stores_interruptEntry : Stores s s.interruptEntry (s.entryWrites (lowestLine s.req)) :=
  (stores_writeAll s _).sameMemory s.sameMemory_interruptEntry

theorem State.hostKept_interruptEntry : HostKept s s.interruptEntry := by
  obtain ⟨hwrites, -, -⟩ := CartridgeKept.writeAll s (s.entryWrites (lowestLine s.req))
  exact hostKept_trans hwrites s.sameMemory_interruptEntry.hostKept

end Entry

end Sys2Proof.Machine

/-! ## The statements -/

namespace Sys2Proof.Proofs

open Sys2Proof.Machine Sys2Proof.Claims

/-- Settles O8: `effect` gives every legal instruction its next state, whose writes leave the fault alone; `effect_illegal` gives
the others theirs. -/
theorem everyInstructionCompletes : Obligations.EveryInstructionCompletes := by
  intro i s
  cases hi : i.isIllegal with
  | false =>
    obtain ⟨t, hexec, heffect⟩ := effect i s hi
    exact ⟨t, hexec, fun _ => ⟨heffect.fault_eq, heffect.cycles⟩, nofun⟩
  | true =>
    obtain ⟨op, -, hexec⟩ := effect_illegal i s hi
    exact ⟨_, hexec, nofun, fun _ => rfl⟩

/-- Settles O10: each of the eleven bytes raises its own condition, at `exec` and at a step; the state it leaves is faulted, and a
faulted block takes no step. -/
theorem illegalOpcodeAborts : Obligations.IllegalOpcodeAborts := by
  intro op hop
  refine ⟨fun n1 n2 => ⟨?_, exec_of_illegalByte hop n1 n2⟩, ?_⟩
  · rw [(decodeOp_readsBytes op).length_eq]
    exact (decodeOp_illegalByte_zero op hop).1
  · rintro s hs rfl
    have ⟨⟨hrom0, hfailed, _⟩, _, _⟩ := hs
    exact ⟨step_of_illegalByte hs hop, step_of_fault (s := s.raiseIllegal _) hrom0 hfailed rfl⟩

/-- Settles O11: the step is `interruptEntry`, whose line is the lowest of the request, and whose memory is that of the three
writes. -/
theorem interruptEntry : Obligations.InterruptEntry := by
  intro s n hs hn hset hlow
  have hline : lowestLine s.req = n := lowestLine_eq hn hset hlow
  have ⟨⟨_, _, hfault⟩, _⟩ := hs
  have hstores := s.stores_interruptEntry
  rw [hline] at hstores
  exact ⟨_, step_of_entersInterrupt hs, by rw [s.interruptEntry_pc, hline, interruptVector], s.interruptEntry_sp, s.interruptEntry_f,
    s.interruptEntry_ime, s.interruptEntry_imePending, s.interruptEntry_mode, s.interruptEntry_haltBug,
    s.interruptEntry_fault.trans hfault, fun r _ => s.reg_interruptEntry r, s.hostKept_interruptEntry, hstores, s.interruptEntry_out⟩

end Sys2Proof.Proofs
end

section
/-! The proofs of the statements about the host's reset and its wake (70_reset_and_hazards.md): what the moves of the host and the
environment leave of the control state, and what reset does to memory. -/

namespace Sys2Proof.Machine

open Sys2Proof.Claims

/-! ## The moves and the control state -/

section Moves

variable (s : State)

/-- Whatever state a reply to a move gives has the control state of `s`. -/
def HostReply.KeepsControl : HostReply → Prop
  | .ok t => ControlKept s t
  | .error _ t => ControlKept s t
  | .notAMove => True

theorem HostReply.KeepsControl.of_state? {s t : State} {reply : HostReply} (h : reply.KeepsControl s) (ht : reply.state? = some t) :
    ControlKept s t := by
  cases reply with
  | ok u => cases ht; exact h
  | error e u => cases ht; exact h
  | notAMove => cases ht

theorem controlKept_writeByte (addr : Word) (v : Byte) : ControlKept s (s.writeByte addr v) := by
  simp [ControlKept]

theorem State.keepsControl_loadError (e : HostError) : (s.loadError e).KeepsControl s :=
  ⟨rfl, rfl, rfl, rfl, rfl⟩

theorem State.keepsControl_initFixedROM (x : BankImage) : (s.initFixedROM x).KeepsControl s := by
  unfold State.initFixedROM
  split
  · trivial
  · split
    · exact ⟨rfl, rfl, rfl, rfl, rfl⟩
    · exact s.keepsControl_loadError _

theorem State.keepsControl_initSwitchableROM (count init : Nat) (banks : List BankImage) :
    (s.initSwitchableROM count init banks).KeepsControl s := by
  unfold State.initSwitchableROM
  split
  · trivial
  · split
    · exact s.keepsControl_loadError _
    · exact ⟨rfl, rfl, rfl, rfl, rfl⟩

theorem State.keepsControl_initExternalRAM (count init : Nat) (persistent : Bool) (banks : List BankImage) :
    (s.initExternalRAM count init persistent banks).KeepsControl s := by
  unfold State.initExternalRAM
  split
  · trivial
  · split
    · exact s.keepsControl_loadError _
    · exact ⟨rfl, rfl, rfl, rfl, rfl⟩

theorem State.keepsControl_setSwitchableROMBank (i : Nat) : (s.setSwitchableROMBank i).KeepsControl s := by
  unfold State.setSwitchableROMBank
  split <;> exact ⟨rfl, rfl, rfl, rfl, rfl⟩

theorem State.keepsControl_setSwitchableWRAMBank (i : Nat) : (s.setSwitchableWRAMBank i).KeepsControl s := by
  unfold State.setSwitchableWRAMBank
  split <;> exact ⟨rfl, rfl, rfl, rfl, rfl⟩

theorem State.keepsControl_setExternalRAMBank (i : Nat) : (s.setExternalRAMBank i).KeepsControl s := by
  unfold State.setExternalRAMBank
  split <;> exact ⟨rfl, rfl, rfl, rfl, rfl⟩

theorem State.keepsControl_sendInterrupt (n : Nat) : (s.sendInterrupt n).KeepsControl s := by
  unfold State.sendInterrupt
  split
  · exact controlKept_writeByte s _ _
  · trivial

theorem State.keepsControl_envWrite (addr : Word) (v : Byte) : (s.envWrite addr v).KeepsControl s := by
  unfold State.envWrite
  split
  · exact controlKept_writeByte s addr v
  · trivial

/-- Of the moves of R479 only `reset` and `wake` write the control state. -/
theorem HostMove.keepsControl {m : HostMove} (hreset : m ≠ .reset) (hwake : m ≠ .wake) : (m.apply s).KeepsControl s := by
  cases m with
  | initFixedROM x => exact s.keepsControl_initFixedROM x
  | initSwitchableROM count init banks => exact s.keepsControl_initSwitchableROM count init banks
  | initExternalRAM count init persistent banks => exact s.keepsControl_initExternalRAM count init persistent banks
  | setSwitchableROMBank i => exact s.keepsControl_setSwitchableROMBank i
  | setSwitchableWRAMBank i => exact s.keepsControl_setSwitchableWRAMBank i
  | setExternalRAMBank i => exact s.keepsControl_setExternalRAMBank i
  | reset => contradiction
  | wake => contradiction
  | sendInterrupt n => exact s.keepsControl_sendInterrupt n
  | envWrite addr v => exact s.keepsControl_envWrite addr v
  | clearDirty => exact ⟨rfl, rfl, rfl, rfl, rfl⟩

end Moves

/-! ## Wake -/

section Wake

variable {s : State}

theorem State.wake_of_stopped (h : s.mode = .stopped) : s.wake = { s with mode := .running } := by
  rw [State.wake, h]

theorem State.wake_of_not_stopped (h : s.mode ≠ .stopped) : s.wake = s := by
  unfold State.wake
  split
  · contradiction
  · rfl
  · rfl

@[simp] theorem State.wake_fault (s : State) : s.wake.fault = s.fault := by
  by_cases h : s.mode = .stopped
  · rw [State.wake_of_stopped h]
  · rw [State.wake_of_not_stopped h]

/-- No move but `reset` clears the fault, nor sets one (R53). -/
theorem HostMove.fault_kept {t : State} {m : HostMove} (hreset : m ≠ .reset) (ht : (m.apply s).state? = some t) :
    t.fault = s.fault := by
  by_cases hwake : m = .wake
  · subst hwake
    cases ht
    exact s.wake_fault
  · obtain ⟨-, -, -, -, hfault⟩ := (HostMove.keepsControl s hreset hwake).of_state? ht
    exact hfault

/-- A step of a Stopped block is idle (R140 line 2). -/
theorem step_of_stopped {t : State} (hm : s.mode = .stopped) (h : step s = .next t) : t = s.idle := by
  have hidles : s.idles = true := by simp [State.idles, hm]
  obtain ⟨-, -, -, ⟨-, ht⟩ | ⟨hbusy, -⟩ | ⟨hbusy, -⟩⟩ := step_next h
  · exact ht
  · rw [hidles] at hbusy; cases hbusy
  · rw [hidles] at hbusy; cases hbusy

end Wake

/-! ## The bytes that `IO_BOOT` gives -/

theorem ioBootAddr_iff {addr : Word} :
    ioBootAddr addr = true ↔ 0xFF00 ≤ addr.toNat ∧ addr.toNat ≤ 0xFF7F ∨ addr.toNat = 0xFFFF := by
  simp [ioBootAddr, inIoTable]

theorem Memory.applyIoBoot_cons (m : Memory) (entry : Word × Byte) (boot : List (Word × Byte)) :
    m.applyIoBoot (entry :: boot) = (m.applyIoBoot [entry]).applyIoBoot boot := rfl

/-- An address to which the list gives one value alone reads as that value. -/
theorem Memory.read_applyIoBoot_eq {m : Memory} (hm : m.wf = true) {boot : List (Word × Byte)} {addr : Word} {v : Byte}
    (haddr : ioBootAddr addr = true) (hmem : (addr, v) ∈ boot) (huniq : ∀ v', (addr, v') ∈ boot → v' = v) :
    (m.applyIoBoot boot).read addr.toNat = v := by
  induction boot generalizing m with
  | nil => cases hmem
  | cons entry boot ih =>
    have huniq' : ∀ v', (addr, v') ∈ boot → v' = v := fun v' h => huniq v' (List.mem_cons_of_mem _ h)
    rw [Memory.applyIoBoot_cons]
    by_cases hlater : (addr, v) ∈ boot
    · exact ih (Memory.wf_applyIoBoot hm [entry]) hlater huniq'
    · obtain rfl : (addr, v) = entry := (List.mem_cons.mp hmem).resolve_right hlater
      have hlast : ∀ e ∈ boot, ioBootAddr e.1 = true → e.1.toNat ≠ addr.toNat := by
        rintro ⟨a, v'⟩ he - ha
        obtain rfl : a = addr := BitVec.eq_of_toNat_eq ha
        exact hlater (huniq' v' he ▸ he)
      rw [Memory.read_applyIoBoot_other _ boot hlast]
      simp [Memory.applyIoBoot, haddr, Memory.read_write_eq hm]

/-- The I/O bytes and IE are kept under their CPU address. -/
theorem State.readByte_of_ioBootAddr (s : State) {addr : Word} (h : ioBootAddr addr = true) :
    s.readByte addr = s.mem.read addr.toNat := by
  obtain ⟨lo, hi⟩ | hie := ioBootAddr_iff.mp h
  · have haddr : Region.io.base + (addr.toNat - 0xFF00) = addr.toNat := Nat.add_sub_of_le lo
    rw [State.readByte, s.resolve_io lo hi]
    exact congrArg s.mem.read haddr
  · rw [State.readByte, s.resolve_ie hie, hie]
    rfl

/-! ## The host's reset -/

/-- A byte of a region that is neither the I/O bytes nor IE lies at no address that `IO_BOOT` may name. -/
theorem Region.ne_ioBootAddr {r : Region} {off : Nat} (hoff : off < r.size) (hio : r ≠ .io) (hie : r ≠ .ie) {addr : Word}
    (haddr : ioBootAddr addr = true) : addr.toNat ≠ r.base + off := by
  rw [ioBootAddr_iff] at haddr
  cases r with
  | io => contradiction
  | ie => contradiction
  | _ => simp only [Region.size, Region.base] at hoff ⊢; omega

/-- Reset reaches no byte but those that `IO_BOOT` names: a bank keeps its bytes, and only the I/O bytes and IE can be named. -/
theorem State.loadCell_hostReset {s : State} {r : Region} {off : Nat} (hb : s.hasByte r off = true)
    (hboot : r = .io ∨ r = .ie → ∀ w ∈ s.cfg.ioBoot, w.1.toNat ≠ r.base + off) :
    s.hostReset.loadCell r off = s.loadCell r off := by
  have hfixed (hoff : off < r.size) (w : Word × Byte) (hw : w ∈ s.cfg.ioBoot) (haddr : ioBootAddr w.1 = true) :
      w.1.toNat ≠ r.base + off := by
    by_cases hio : r = .io ∨ r = .ie
    · exact hboot hio w hw
    · rw [not_or] at hio
      exact Region.ne_ioBootAddr hoff hio.1 hio.2 haddr
  cases r with
  | rom1 => rfl
  | eram => rfl
  | wram1 => rfl
  | _ => exact Memory.read_applyIoBoot_other s.mem s.cfg.ioBoot (hfixed (of_decide_eq_true hb))

/-- A byte to which `IO_BOOT` gives one value alone has that value after reset. -/
theorem State.readByte_hostReset {s : State} (hinv : s.inv = true) {addr : Word} {v : Byte} (haddr : ioBootAddr addr = true)
    (hmem : (addr, v) ∈ s.cfg.ioBoot) (huniq : ∀ v', (addr, v') ∈ s.cfg.ioBoot → v' = v) : s.hostReset.readByte addr = v := by
  obtain ⟨hwf, -, -, -⟩ := State.canonical_of_inv hinv
  rw [State.readByte_of_ioBootAddr _ haddr]
  exact Memory.read_applyIoBoot_eq hwf haddr hmem huniq

end Sys2Proof.Machine

/-! ## The statements -/

namespace Sys2Proof.Proofs

open Sys2Proof.Machine Sys2Proof.Claims

/-- Settles O21: the registers, the run control and the banks are what `hostReset` writes out; its bytes are the laws of `IO_BOOT`;
and the other moves keep the fault. -/
theorem hostReset : Obligations.HostReset := by
  refine ⟨fun s t m => HostMove.fault_kept, fun s hinv => ?_⟩
  exact ⟨rfl, rfl, rfl, rfl, rfl, rfl, rfl, rfl, rfl, rfl, rfl, rfl, rfl, rfl, rfl,
    fun addr v hmem hio => State.readByte_hostReset hinv (ioBootAddr_iff.mpr hio) hmem, fun r off => State.loadCell_hostReset,
    ⟨rfl, rfl, rfl⟩, ⟨rfl, rfl, rfl⟩, rfl, rfl⟩

/-- Settles O22: `wake` by the mode; every other move but `reset` keeps the mode, and a step of a Stopped block is idle. -/
theorem wake : Obligations.Wake := by
  refine ⟨fun s => ⟨State.wake_of_stopped, State.wake_of_not_stopped⟩, fun s t m hstopped hreset hwake ht => ?_,
    fun s t hstopped h => ?_⟩
  · obtain ⟨-, -, hmode, -, -⟩ := (HostMove.keepsControl s hreset hwake).of_state? ht
    exact hmode.trans hstopped
  · rw [step_of_stopped hstopped h]
    exact hstopped

end Sys2Proof.Proofs
end

section
/-! The proofs of the statements about the round trip between words and instructions (30_encoding.md): what `decode` answers by the
length that the first byte tells, that `encode` gives the bytes of every decoding back, and that every instruction is a decoding. -/

namespace Sys2Proof

open Machine (join loByte hiByte loByte_join hiByte_join)

/-! ## What `decode` answers -/

theorem lengthOf_cases : ∀ op : Byte, lengthOf op = 1 ∨ lengthOf op = 2 ∨ lengthOf op = 3 := Byte.of_digits (by decide)

/-- Decoding the bytes of the first index answers the instruction and the rest: the byte 0xCB alone is its own row (log 10), and
otherwise the first byte tells how many bytes are read. -/
inductive Decodes : List Byte → Instr → List Byte → Prop where
  | lonePrefix : Decodes [0xCB] .prefixCB []
  | one {op : Byte} (h : lengthOf op = 1) (rest : List Byte) : Decodes (op :: rest) (decodeOp op 0 0) rest
  | two {op : Byte} (h : lengthOf op = 2) (n : Byte) (rest : List Byte) : Decodes (op :: n :: rest) (decodeOp op n 0) rest
  | three {op : Byte} (h : lengthOf op = 3) (n1 n2 : Byte) (rest : List Byte) :
    Decodes (op :: n1 :: n2 :: rest) (decodeOp op n1 n2) rest

theorem Decodes.decode_eq {bytes rest : List Byte} {i : Instr} (h : Decodes bytes i rest) : decode bytes = .ok (i, rest) := by
  cases h with
  | lonePrefix => rfl
  | @one op h =>
    have hop : ¬ op = 203#8 := by rintro rfl; cases h
    match rest with
    | [] | [_] | _ :: _ :: _ => simp [decode, h, hop]
  | two h n =>
    match rest with
    | [] | _ :: _ => simp [decode, h]
  | three h n1 n2 => simp [decode, h]

theorem Decodes.of_decode {bytes rest : List Byte} {i : Instr} (h : decode bytes = .ok (i, rest)) : Decodes bytes i rest := by
  unfold decode at h
  split at h
  · cases h
  · split at h
    next hop => cases h; subst hop; exact .lonePrefix
    next =>
      split at h
      next h1 => cases h; exact .one h1 []
      next => cases h
  · split at h
    next h1 => cases h; exact .one h1 _
    next =>
      split at h
      next h2 => cases h; exact .two h2 _ []
      next => cases h
  next op n1 n2 _ =>
    split at h
    next h1 => cases h; exact .one h1 _
    next h1 =>
      split at h
      next h2 => cases h; exact .two h2 n1 _
      next h2 =>
        have h3 : lengthOf op = 3 := ((lengthOf_cases op).resolve_left h1).resolve_left h2
        cases h
        exact .three h3 n1 n2 _

/-! ## The bytes of a decoding -/

/-- The claim about each byte at one pair of operand bytes; `ReadsBytes` says that they do not matter. -/
theorem encode_decodeOp_zero : ∀ op : Byte, lengthOf op = 1 → encode (decodeOp op 0 0) = [op] := Byte.of_digits (by decide)

theorem encode_decodeOp_of_one {op : Byte} (h : lengthOf op = 1) (n1 n2 : Byte) : encode (decodeOp op n1 n2) = [op] := by
  have hreads := decodeOp_readsBytes op
  rw [h] at hreads
  rw [hreads.eq_of_one 0 0 n1 n2, encode_decodeOp_zero op h]

theorem encode_decodeExtended : ∀ op2 : Byte, encode (decodeExtended op2) = [0xCB, op2] := Byte.of_digits (by decide)

/-- The first bytes of the instructions of two bytes, 0xCB apart (R142). -/
def twoByteOps : List Byte :=
  [0x06, 0x0E, 0x16, 0x1E, 0x26, 0x2E, 0x36, 0x3E, 0xC6, 0xCE, 0xD6, 0xDE, 0xE6, 0xEE, 0xF6, 0xFE, 0x18, 0x20, 0x28, 0x30, 0x38,
    0xE8, 0xF8, 0xE0, 0xF0, 0x10]

/-- The first bytes of the instructions of three bytes (R142). -/
def threeByteOps : List Byte :=
  [0x01, 0x08, 0x11, 0x21, 0x31, 0xC2, 0xC3, 0xC4, 0xCA, 0xCC, 0xCD, 0xD2, 0xD4, 0xDA, 0xDC, 0xEA, 0xFA]

theorem mem_twoByteOps : ∀ op : Byte, lengthOf op = 2 → op = 0xCB ∨ op ∈ twoByteOps := Byte.of_digits (by decide)

theorem mem_threeByteOps : ∀ op : Byte, lengthOf op = 3 → op ∈ threeByteOps := Byte.of_digits (by decide)

theorem encode_decodeOp_of_two {op : Byte} (h : lengthOf op = 2) (n1 n2 : Byte) : encode (decodeOp op n1 n2) = [op, n1] := by
  obtain rfl | hop := mem_twoByteOps op h
  · exact encode_decodeExtended n1
  · have hall : ∀ op ∈ twoByteOps, encode (decodeOp op n1 n2) = [op, n1] := by
      simp only [twoByteOps, List.forall_mem_cons]
      exact ⟨rfl, rfl, rfl, rfl, rfl, rfl, rfl, rfl, rfl, rfl, rfl, rfl, rfl, rfl, rfl, rfl, rfl, rfl, rfl, rfl, rfl, rfl, rfl, rfl, rfl,
        rfl, nofun⟩
    exact hall op hop

theorem encode_decodeOp_of_three {op : Byte} (h : lengthOf op = 3) (n1 n2 : Byte) : encode (decodeOp op n1 n2) = [op, n1, n2] := by
  have hall : ∀ op ∈ threeByteOps, encode (decodeOp op n1 n2) = [op, loByte (join n2 n1), hiByte (join n2 n1)] := by
    simp only [threeByteOps, List.forall_mem_cons]
    exact ⟨rfl, rfl, rfl, rfl, rfl, rfl, rfl, rfl, rfl, rfl, rfl, rfl, rfl, rfl, rfl, rfl, rfl, nofun⟩
  rw [hall op (mem_threeByteOps op h), loByte_join, hiByte_join]

/-- The encoding of a decoding is the bytes that were read, as many as the first byte tells (R142). -/
theorem encode_decodeOp (op n1 n2 : Byte) : encode (decodeOp op n1 n2) = [op, n1, n2].take (lengthOf op) := by
  obtain h | h | h := lengthOf_cases op
  · rw [h, encode_decodeOp_of_one h]; rfl
  · rw [h, encode_decodeOp_of_two h]; rfl
  · rw [h, encode_decodeOp_of_three h]; rfl

/-- Whatever the length, the encoding of a decoding starts with the byte that was decoded. -/
theorem eq_of_encode_decodeOp {op op' n1 n2 : Byte} {bytes : List Byte} (h : encode (decodeOp op n1 n2) = op' :: bytes) : op = op' := by
  rw [encode_decodeOp] at h
  obtain hl | hl | hl := lengthOf_cases op <;> rw [hl] at h <;> exact (List.cons.inj h).1

/-- No byte of a decoded word is dropped or changed. -/
theorem Decodes.encode_append {bytes rest : List Byte} {i : Instr} (h : Decodes bytes i rest) : encode i ++ rest = bytes := by
  cases h with
  | lonePrefix => rfl
  | one h => rw [encode_decodeOp_of_one h]; rfl
  | two h n => rw [encode_decodeOp_of_two h]; rfl
  | three h n1 n2 => rw [encode_decodeOp_of_three h]; rfl

/-- A decoding decodes again from its own encoding, whatever follows it. -/
theorem decodes_encode_decodeOp (op n1 n2 : Byte) (rest : List Byte) :
    Decodes (encode (decodeOp op n1 n2) ++ rest) (decodeOp op n1 n2) rest := by
  have hreads := decodeOp_readsBytes op
  obtain h | h | h := lengthOf_cases op
  · rw [h] at hreads
    rw [encode_decodeOp_of_one h, hreads.eq_of_one 0 0 n1 n2]
    exact .one h rest
  · rw [h] at hreads
    rw [encode_decodeOp_of_two h, hreads.eq_of_two n1 0 n2]
    exact .two h n1 rest
  · rw [encode_decodeOp_of_three h]
    exact .three h n1 n2 rest

/-! ## The illegal rows and the byte 0xCB alone -/

/-- An illegal row encodes as one of the eleven bytes, which decodes to it (R155). -/
theorem encode_of_isIllegal {i : Instr} (h : i.isIllegal = true) :
    ∃ op ∈ Machine.illegalBytes, encode i = [op] ∧ decodeOp op 0 0 = i := by
  unfold Instr.isIllegal at h
  split at h
  case h_12 => cases h
  all_goals exact ⟨_, by decide, rfl, rfl⟩

theorem mem_illegalBytes_of_isIllegal {op n1 n2 : Byte} (h : (decodeOp op n1 n2).isIllegal = true) : op ∈ Machine.illegalBytes := by
  obtain ⟨op', hmem, henc, -⟩ := encode_of_isIllegal h
  rwa [eq_of_encode_decodeOp henc]

/-- The one term that is not a whole instruction is the row of the byte 0xCB alone. -/
theorem eq_prefixCB_of_not_wellFormed {i : Instr} (h : i.wellFormed ≠ true) : i = .prefixCB := by
  unfold Instr.wellFormed at h
  split at h
  · rfl
  · exact absurd rfl h

/-- After 0xCB a second byte is read, so that no decoding is the row of that byte alone. -/
theorem wellFormed_decodeOp (op n1 n2 : Byte) : (decodeOp op n1 n2).wellFormed = true := by
  refine Decidable.byContradiction fun h => ?_
  have henc : encode (decodeOp op n1 n2) = [0xCB] := by rw [eq_prefixCB_of_not_wellFormed h]; rfl
  obtain rfl : op = 0xCB := eq_of_encode_decodeOp henc
  rw [encode_decodeOp_of_two rfl] at henc
  cases henc

end Sys2Proof

namespace Sys2Proof.Claims

open Sys2Proof.Machine

/-! ## Every instruction is a decoding -/

/-- Some byte, with some bytes after it, decodes to the instruction. -/
def IsDecoding (i : Instr) : Prop := ∃ op n1 n2, decodeOp op n1 n2 = i

theorem P1.isDecoding {op : Nat} {i : Instr} (h : P1 op i) : IsDecoding i := ⟨_, _, _, h.1 0 0⟩

theorem P2.isDecoding {op : Nat} {i : Byte → Instr} (h : P2 op i) (n : Byte) : IsDecoding (i n) := ⟨_, _, _, (h n).1 0⟩

theorem P3.isDecoding {op : Nat} {i : Word → Instr} (h : P3 op i) (v : Word) : IsDecoding (i v) := ⟨_, _, _, (h v).1⟩

theorem X2.isDecoding {op2 : Nat} {i : Instr} (h : X2 op2 i) : IsDecoding i := ⟨_, _, _, h.1 0⟩

/-- A form with a 16-bit immediate and no operand field. -/
theorem isDecoding_of_word {i : Word → Instr} (op : Byte) (h : ∀ n1 n2, decodeOp op n1 n2 = i (join n2 n1)) (v : Word) :
    IsDecoding (i v) := ⟨op, loByte v, hiByte v, by rw [h, join_hiByte_loByte]⟩

theorem isDecoding {i : Instr} (hi : i.wellFormed = true) : IsDecoding i := by
  generalize hr : exec i State.reset = r
  have h := meaning State.reset i
  rw [hr] at h
  clear hr
  cases h with
  | prefixCB => cases hi
  | illegal i op h =>
    obtain ⟨op, -, -, hd⟩ := encode_of_isIllegal h
    exact ⟨op, 0, 0, hd⟩
  | ldReg dst src => exact (p1_mkLdReg dst src).isDecoding
  | ldImm n dst => exact (p2_mkLdImm dst).isDecoding n
  | ldFromHL dst => exact (p1_mkLdFromHL dst).isDecoding
  | ldToHL r => exact (p1_mkLdToHL r).isDecoding
  | ldPair v p => exact (p3_mkLdPair p).isDecoding v
  | push q => exact (p1_mkPush q).isDecoding
  | pop q => exact (p1_mkPop q).isDecoding
  | aluReg op r => exact (p1_mkAluReg op r).isDecoding
  | aluHL op => exact (p1_mkAluHL op).isDecoding
  | aluImm n op => exact (p2_mkAluImm op).isDecoding n
  | incReg r => exact (p1_mkInc r).isDecoding
  | decReg r => exact (p1_mkDec r).isDecoding
  | addHL p => exact (p1_mkAddHL p).isDecoding
  | incPair p => exact (p1_mkIncPair p).isDecoding
  | decPair p => exact (p1_mkDecPair p).isDecoding
  | shiftReg op r => exact (x2_mkShiftReg op r).isDecoding
  | shiftHL op => exact (x2_mkShiftHL op).isDecoding
  | bitReg b r => exact (x2_mkBitReg b r).isDecoding
  | bitHL b => exact (x2_mkBitHL b).isDecoding
  | resReg b r => exact (x2_mkResReg b r).isDecoding
  | resHL b => exact (x2_mkResHL b).isDecoding
  | setReg b r => exact (x2_mkSetReg b r).isDecoding
  | setHL b => exact (x2_mkSetHL b).isDecoding
  | jpCond v cc => exact (p3_mkJpCond cc).isDecoding v
  | jrCond e cc => exact (p2_mkJrCond cc).isDecoding e
  | callCond v cc => exact (p3_mkCallCond cc).isDecoding v
  | retCond cc => exact (p1_mkRetCond cc).isDecoding
  | rst t => exact (p1_mkRst t).isDecoding
  | ldImmToHL n => exact ⟨0x36, n, 0, rfl⟩
  | ldAFromBC => exact ⟨0x0A, 0, 0, rfl⟩
  | ldAFromDE => exact ⟨0x1A, 0, 0, rfl⟩
  | ldAFromAbs v => exact isDecoding_of_word 0xFA (fun _ _ => rfl) v
  | ldAFromHigh n => exact ⟨0xF0, n, 0, rfl⟩
  | ldAFromHighC => exact ⟨0xF2, 0, 0, rfl⟩
  | ldAToBC => exact ⟨0x02, 0, 0, rfl⟩
  | ldAToDE => exact ⟨0x12, 0, 0, rfl⟩
  | ldAToAbs v => exact isDecoding_of_word 0xEA (fun _ _ => rfl) v
  | ldAToHigh n => exact ⟨0xE0, n, 0, rfl⟩
  | ldAToHighC => exact ⟨0xE2, 0, 0, rfl⟩
  | ldAFromHLInc => exact ⟨0x2A, 0, 0, rfl⟩
  | ldAFromHLDec => exact ⟨0x3A, 0, 0, rfl⟩
  | ldAToHLInc => exact ⟨0x22, 0, 0, rfl⟩
  | ldAToHLDec => exact ⟨0x32, 0, 0, rfl⟩
  | ldSpTo v => exact isDecoding_of_word 0x08 (fun _ _ => rfl) v
  | ldSpHL => exact ⟨0xF9, 0, 0, rfl⟩
  | ldHLSp n => exact ⟨0xF8, n, 0, rfl⟩
  | incHL => exact ⟨0x34, 0, 0, rfl⟩
  | decHL => exact ⟨0x35, 0, 0, rfl⟩
  | addSp n => exact ⟨0xE8, n, 0, rfl⟩
  | rlca => exact ⟨0x07, 0, 0, rfl⟩
  | rrca => exact ⟨0x0F, 0, 0, rfl⟩
  | rla => exact ⟨0x17, 0, 0, rfl⟩
  | rra => exact ⟨0x1F, 0, 0, rfl⟩
  | jp v => exact isDecoding_of_word 0xC3 (fun _ _ => rfl) v
  | jpHL => exact ⟨0xE9, 0, 0, rfl⟩
  | jr e => exact ⟨0x18, e, 0, rfl⟩
  | call v => exact isDecoding_of_word 0xCD (fun _ _ => rfl) v
  | ret => exact ⟨0xC9, 0, 0, rfl⟩
  | reti => exact ⟨0xD9, 0, 0, rfl⟩
  | nop => exact ⟨0x00, 0, 0, rfl⟩
  | daa => exact ⟨0x27, 0, 0, rfl⟩
  | cpl => exact ⟨0x2F, 0, 0, rfl⟩
  | scf => exact ⟨0x37, 0, 0, rfl⟩
  | ccf => exact ⟨0x3F, 0, 0, rfl⟩
  | ei => exact ⟨0xFB, 0, 0, rfl⟩
  | di => exact ⟨0xF3, 0, 0, rfl⟩
  | halt => exact ⟨0x76, 0, 0, rfl⟩
  | stop n => exact ⟨0x10, n, 0, rfl⟩

end Sys2Proof.Claims

/-! ## The statements -/

namespace Sys2Proof.Proofs

open Sys2Proof.Machine Sys2Proof.Claims

/-- Settles O2: a whole instruction is a decoding, and a decoding decodes again from its own bytes. -/
theorem decodeOfEncode : Obligations.DecodeOfEncode := by
  intro i rest hi
  obtain ⟨op, n1, n2, rfl⟩ := isDecoding hi
  exact (decodes_encode_decodeOp op n1 n2 rest).decode_eq

/-- Settles O3: what `decode` answers is one of the four cases of `Decodes`, and none drops a byte. -/
theorem encodeOfDecode : Obligations.EncodeOfDecode :=
  fun _ _ _ h => (Decodes.of_decode h).encode_append

/-- Settles O1: each word is decoded by the length of its first byte. -/
theorem sampleWordsDecode : Obligations.SampleWordsDecode :=
  ⟨rfl, rfl, rfl, rfl, rfl, rfl, rfl, rfl, rfl, rfl, rfl, rfl⟩

/-- Settles O5: the encoding of a decoding starts with its first byte, and that of an illegal row is one of the eleven bytes. -/
theorem illegalBytesExactly : Obligations.IllegalBytesExactly := by
  intro op n1 n2
  refine ⟨⟨mem_illegalBytes_of_isIllegal, fun hop => ?_⟩, wellFormed_decodeOp op n1 n2, fun h => ?_⟩
  · exact (decodeOp_of_illegalByte hop n1 n2).1
  · exact (decodeOp_of_illegalByte (mem_illegalBytes_of_isIllegal h) n1 n2).2

end Sys2Proof.Proofs
end

section
/-! The proofs of the statements about the step (30_encoding.md R140): which of its cases a step was, what each case leaves of the
control state, and that the state an instruction runs at is the one that the bytes at PC call for. -/

namespace Sys2Proof.Machine

open Sys2Proof.Claims

/-! ## The state an instruction runs at -/

section Issue

variable (s : State) {i : Instr}

theorem State.issue_legal (h : i.isIllegal = false) : s.issue i = { s with
    mode := .running
    ime := s.imePending.getD s.ime
    imePending := none
    pc := s.operandPc + BitVec.ofNat 16 (i.length - 1)
    haltBug := false } :=
  if_neg (ne_true_of_eq_false h)

@[simp] theorem State.issue_f (i : Instr) : (s.issue i).f = s.f := by unfold State.issue; split <;> rfl

@[simp] theorem State.issue_fault (i : Instr) : (s.issue i).fault = s.fault := by unfold State.issue; split <;> rfl

end Issue

/-! ## The cases of a step -/

/-- What a step from `s` that gave the next state `t` did (R140): it was idle, entered an interrupt, met an illegal byte, or ran a
legal instruction. -/
inductive StepCase (s t : State) : Prop where
  | idle (hidles : s.idles = true) (ht : t = s.idle)
  | entry (hbusy : s.idles = false) (ht : t = s.interruptEntry)
  | illegal (hbusy : s.idles = false) (hop : s.readByte s.pc ∈ illegalBytes) (ht : t = s.raiseIllegal (s.readByte s.pc))
  | ran (hbusy : s.idles = false) (hlegal : s.fetchInstr.isIllegal = false)
      (heffect : Effect s.fetchInstr (s.issue s.fetchInstr) t)

theorem step_cases {s t : State} (h : step s = .next t) : s.fault = none ∧ StepCase s t := by
  obtain ⟨-, -, hfault, ⟨hidles, ht⟩ | ⟨hbusy, -, ht⟩ | ⟨hbusy, -, hexec⟩⟩ := step_next h
  · exact ⟨hfault, .idle hidles ht⟩
  · exact ⟨hfault, .entry hbusy ht⟩
  · refine ⟨hfault, ?_⟩
    cases hi : s.fetchInstr.isIllegal with
    | true =>
      have hop : s.readByte s.pc ∈ illegalBytes := mem_illegalBytes_of_isIllegal hi
      have hraise : exec s.fetchInstr s = .next (s.raiseIllegal (s.readByte s.pc)) := exec_of_illegalByte hop _ _ s
      rw [s.issue_illegal hi, hraise] at hexec
      cases hexec
      exact .illegal hbusy hop rfl
    | false =>
      obtain ⟨t', hnext, heffect⟩ := effect s.fetchInstr (s.issue s.fetchInstr) hi
      rw [hnext] at hexec
      cases hexec
      exact .ran hbusy hi heffect

theorem State.mode_ne_stopped_of_busy {s : State} (h : s.idles = false) : s.mode ≠ .stopped := by
  intro hm
  simp [State.idles, hm] at h

/-! ## IME -/

/-- Only EI, DI and RETI write IME or its pending value; an illegal opcode changes neither. -/
theorem exec_ime_kept {i : Instr} {s t : State} (hei : i ≠ .ei) (hdi : i ≠ .di) (hreti : i ≠ .reti) (h : exec i s = .next t) :
    t.ime = s.ime ∧ t.imePending = s.imePending := by
  cases hi : i.isIllegal with
  | true =>
    obtain ⟨op, -, hraise⟩ := effect_illegal i s hi
    rw [hraise] at h
    cases h
    exact ⟨rfl, rfl⟩
  | false =>
    obtain ⟨t', hnext, heffect⟩ := effect i s hi
    rw [hnext] at h
    cases h
    exact ((heffect.ime.resolve_left hei).resolve_left hdi).resolve_left hreti

/-! ## The run mode and what depends on nothing else -/

/-- The run mode does not matter to a byte write. -/
theorem State.writeByte_inMode (s : State) (mode : Mode) (addr : Word) (v : Byte) :
    ({ s with mode } : State).writeByte addr v = { s.writeByte addr v with mode } := by
  show ({ s with mode } : State).writeLoc (s.resolve addr) v = { s.writeLoc (s.resolve addr) v with mode }
  rcases s.resolve addr with ⟨r, off⟩ | _
  · cases r <;> rfl
  · rfl

/-- What interrupt entry to the line `n` does once its request is cleared in IF (R425). -/
def State.enterLine (s : State) (n : Nat) : State :=
  ({ State.push16 { s with mode := .running, ime := false, imePending := none } s.pc with pc := interruptVector n } : State).withCycles 20

theorem State.interruptEntry_eq (s : State) : s.interruptEntry =
    (s.writeByte addrIF (s.readByte addrIF &&& ~~~(1#8 <<< lowestLine s.req))).enterLine (lowestLine s.req) := rfl

/-- Interrupt entry makes the block Running whatever it was (R426). -/
theorem State.interruptEntry_inMode (s : State) (mode : Mode) : ({ s with mode } : State).interruptEntry = s.interruptEntry := by
  let line := lowestLine s.req
  let flags := s.readByte addrIF &&& ~~~(1#8 <<< line)
  calc ({ s with mode } : State).interruptEntry = (({ s with mode } : State).writeByte addrIF flags).enterLine line := rfl
    _ = ({ s.writeByte addrIF flags with mode } : State).enterLine line := by rw [s.writeByte_inMode]
    _ = s.interruptEntry := rfl

/-- The issue of a legal instruction makes the block Running whatever it was (R140 line 3). -/
theorem State.issue_inMode (s : State) (mode : Mode) {i : Instr} (h : i.isIllegal = false) :
    ({ s with mode } : State).issue i = s.issue i := by
  rw [State.issue_legal _ h, State.issue_legal _ h]
  rfl

/-! ## The byte 0xCB -/

/-- The extended table as instructions and as operations (R145). -/
theorem exec_decodeExtended (op2 : Byte) (s : State) : exec (decodeExtended op2) s = extendedOp op2 s := by
  unfold decodeExtended extendedOp
  generalize fieldX op2 = quarter
  generalize operand8Field (fieldZ op2) = operand
  match quarter, operand with
  | 0, .reg _ => exact exec_mkShiftReg ..
  | 0, .mHL => exact exec_mkShiftHL ..
  | 1, .reg _ => exact exec_mkBitReg ..
  | 1, .mHL => exact exec_mkBitHL ..
  | 2, .reg _ => exact exec_mkResReg ..
  | 2, .mHL => exact exec_mkResHL ..
  | _ + 3, .reg _ => exact exec_mkSetReg ..
  | _ + 3, .mHL => exact exec_mkSetHL ..

/-! ## The bytes at PC -/

/-- Of three bytes or more the instruction is decoded, whatever is left over. -/
theorem instr_of_decode {op n1 n2 : Byte} {bytes rest : List Byte} {i : Instr}
    (h : decode (op :: n1 :: n2 :: bytes) = .ok (i, rest)) : i = decodeOp op n1 n2 := by
  have hreads := decodeOp_readsBytes op
  cases Decodes.of_decode h with
  | one hlen => rw [hlen] at hreads; exact hreads.eq_of_one n1 n2 0 0
  | two hlen => rw [hlen] at hreads; exact hreads.eq_of_two n1 n2 0
  | three => rfl

theorem State.fetchInstr_of_decode {s : State} {i : Instr} {rest : List Byte} (h : decode (fetchedBytes s) = .ok (i, rest)) :
    s.fetchInstr = i := by
  unfold fetchedBytes at h
  unfold State.fetchInstr State.operandPc
  split at h
  next hb => rw [if_pos hb]; exact (instr_of_decode h).symm
  next hb =>
    have hpc : s.pc + 1 + 1 = s.pc + 2 := by bv_omega
    rw [if_neg hb, hpc]
    exact (instr_of_decode h).symm

theorem State.one_le_length_fetchInstr (s : State) : 1 ≤ s.fetchInstr.length := by
  rw [State.fetchInstr, (decodeOp_readsBytes _).length_eq]
  have := lengthOf_cases (s.readByte s.pc)
  omega

/-- The opcode byte alone tells that the fetched instruction is legal. -/
theorem State.isIllegal_fetchInstr (s : State) (h : (decodeOp (s.readByte s.pc) 0 0).isIllegal = false) :
    s.fetchInstr.isIllegal = false := by
  refine eq_false_of_ne_true fun hi => ?_
  have hop := mem_illegalBytes_of_isIllegal hi
  exact ne_true_of_eq_false h (decodeOp_of_illegalByte hop 0 0).1

/-- PC past the bytes of the fetched instruction, of which the halt bug counts the first twice (R141). -/
theorem State.operandPc_add (s : State) {len : Nat} (h : 1 ≤ len) : s.operandPc + BitVec.ofNat 16 (len - 1) =
    if s.haltBug then s.pc + BitVec.ofNat 16 (len - 1) else s.pc + BitVec.ofNat 16 len := by
  have hlen : BitVec.ofNat 16 len = 1 + BitVec.ofNat 16 (len - 1) := by
    rw [← Nat.add_sub_of_le h, BitVec.ofNat_add, Nat.add_sub_cancel_left]
    rfl
  unfold State.operandPc
  split
  · rfl
  · rw [hlen, BitVec.add_assoc]

end Sys2Proof.Machine

/-! ## The statements -/

namespace Sys2Proof.Proofs

open Sys2Proof.Machine Sys2Proof.Claims

/-- Settles O6: the fetch decodes the bytes at PC, and `issue` gives the state that the statement writes out. -/
theorem stepRunsDecodedInstruction : Obligations.StepRunsDecodedInstruction := by
  intro s i rest hs hdecode
  obtain rfl := State.fetchInstr_of_decode hdecode
  rw [step_of_runsInstruction hs]
  refine ⟨fun hi => by rw [s.issue_illegal hi], fun hi => ?_⟩
  rw [s.issue_legal hi, s.operandPc_add s.one_le_length_fetchInstr]
  cases s.imePending <;> rfl

/-- Settles O7: the lone row is `extended`, which dispatches as the decoding of 0xCB and the byte at PC does. -/
theorem prefixByteDispatches : Obligations.PrefixByteDispatches := by
  intro s
  obtain ⟨t, hnext, -⟩ := effect .prefixCB s rfl
  exact ⟨t, hnext, (exec_decodeExtended (s.readByte s.pc) { s with pc := s.pc + 1 }).trans hnext⟩

/-- Settles O9: each case of a step returns its own value; a fault stops the step, and nothing else does. -/
theorem stepResult : Obligations.StepResult := by
  refine ⟨fun s t h => ?_, fun s trap => step_of_fault, fun s hs => ?_⟩
  · obtain ⟨hfault, hcase⟩ := step_cases h
    refine ⟨hfault, ?_⟩
    cases hcase with
    | idle _ ht => subst ht; exact .inl ⟨hfault, 4, rfl⟩
    | entry _ ht => subst ht; exact .inl ⟨s.interruptEntry_fault.trans hfault, 20, rfl⟩
    | illegal _ _ ht => subst ht; exact .inr ⟨_, rfl, rfl⟩
    | ran _ _ heffect =>
      obtain ⟨n, -, -, hout⟩ := heffect.cycles
      exact .inl ⟨heffect.fault_eq.trans ((s.issue_fault _).trans hfault), n, hout⟩
  · rw [step_of_ready hs]
    split
    · exact ⟨_, rfl⟩
    · split
      · exact ⟨_, rfl⟩
      · obtain ⟨t, hnext, -⟩ := everyInstructionCompletes s.fetchInstr (s.issue s.fetchInstr)
        exact ⟨t, hnext⟩

/-- Settles O12: the idle steps, and for the wake that neither interrupt entry nor a legal instruction depends on the mode. -/
theorem haltWakeAndIdleSteps : Obligations.HaltWakeAndIdleSteps := by
  refine ⟨fun s hs hm hreq => ?_, fun s hs hm => ?_, fun s hs hm hreq h => ?_⟩
  · have hidles : s.idles = true := by rw [State.idles, hm]; exact beq_iff_eq.mpr hreq
    rw [step_of_ready hs, if_pos hidles]; rfl
  · have hidles : s.idles = true := by rw [State.idles, hm]; rfl
    rw [step_of_ready hs, if_pos hidles]; rfl
  · by_cases hdue : s.cfg.interruptDispatch = true ∧ s.ime = true ∧ request s ≠ 0
    · have hentry : EntersInterrupt s := ⟨hs, by simp [hm], hdue⟩
      have hentry' : EntersInterrupt { s with mode := .running } := ⟨hs, nofun, hdue⟩
      exact (step_of_entersInterrupt hentry).trans
        ((congrArg Host.Outcome.next (s.interruptEntry_inMode .running).symm).trans (step_of_entersInterrupt hentry').symm)
    · have hop : (decodeOp (s.readByte s.pc) 0 0).isIllegal = false := h.resolve_left fun ⟨_, _, hdue'⟩ => hdue hdue'
      have hruns : RunsInstruction s := ⟨hs, .inr ⟨hm, hreq⟩, hdue⟩
      have hruns' : RunsInstruction { s with mode := .running } := ⟨hs, .inl rfl, hdue⟩
      exact (step_of_runsInstruction hruns).trans
        ((congrArg (exec s.fetchInstr) (s.issue_inMode .running (s.isIllegal_fetchInstr hop)).symm).trans
          (step_of_runsInstruction hruns').symm)

/-- Settles O13: a step applies the pending value before the instruction, which leaves both alone. -/
theorem pendingImeApplied : Obligations.PendingImeApplied := by
  refine ⟨fun i s t => exec_ime_kept, fun s t hs hei hdi hreti hlegal h => ?_⟩
  rw [step_of_runsInstruction hs] at h
  obtain ⟨hime, hpending⟩ := exec_ime_kept hei hdi hreti h
  rw [s.issue_legal hlegal] at hime hpending
  refine ⟨hime.trans ?_, hpending⟩
  cases s.imePending <;> rfl

/-- Settles O14: by the cases of a step, of which only HALT and STOP write the mode and only HALT the halt bug. -/
theorem modeWriters : Obligations.ModeWriters := by
  intro s t h
  obtain ⟨-, hcase⟩ := step_cases h
  cases hcase with
  | idle _ ht => subst ht; exact ⟨id, .inl, .inl, .inl⟩
  | entry hbusy ht =>
    subst ht
    rw [s.interruptEntry_mode, s.interruptEntry_haltBug]
    exact ⟨fun h => absurd h (State.mode_ne_stopped_of_busy hbusy), nofun, nofun, .inl⟩
  | illegal _ _ ht => subst ht; exact ⟨id, .inl, .inl, .inl⟩
  | ran hbusy hlegal heffect =>
    obtain ⟨-, -, -, hmode, hbug, -⟩ := heffect
    rw [s.issue_legal hlegal] at hmode hbug
    refine ⟨fun h => absurd h (State.mode_ne_stopped_of_busy hbusy), fun h => ?_, fun h => ?_, fun h => ?_⟩
    · rw [h] at hmode
      obtain hm | ⟨-, hm⟩ | ⟨hstop, -⟩ := hmode
      · cases hm
      · cases hm
      · exact .inr hstop
    · rw [h] at hmode
      obtain hm | ⟨hhalt, -⟩ | ⟨-, hm⟩ := hmode
      · cases hm
      · exact .inr hhalt
      · cases hm
    · rw [h] at hbug
      obtain hb | ⟨hhalt, -⟩ := hbug
      · cases hb
      · exact .inr hhalt

/-- Settles O30: a step is a list of byte writes, which set the dirty flag and never clear it. -/
theorem dirtyNeverCleared : Obligations.DirtyNeverCleared := by
  intro s t h
  obtain ⟨ws, hs⟩ := step_writes h
  obtain ⟨⟨-, -, -, hpersistent, -⟩, -, -⟩ := CartridgeKept.writeAll s ws
  refine ⟨hs.persistent.trans hpersistent, fun hd => ?_⟩
  rw [hs.dirty, s.eramDirty_writeAll, hd, Bool.true_or]

/-- Settles O59: each writes one field and retires. -/
theorem enableAndDisable : Obligations.EnableAndDisable := by
  refine ⟨⟨.of_decodeOp (fun _ _ => rfl) rfl rfl, fun _ => rfl⟩, .of_decodeOp (fun _ _ => rfl) rfl rfl, fun s => ?_⟩
  exact ⟨fun h => if_pos h, fun h => if_neg (ne_true_of_eq_false h)⟩

/-- Settles O60: HALT decides by the condition of the halt bug; STOP does not look at its second byte. -/
theorem haltAndStop : Obligations.HaltAndStop := by
  refine ⟨⟨.of_decodeOp (fun _ _ => rfl) rfl rfl, fun s => ?_⟩, .of_decodeOp (fun _ _ => rfl) rfl fun _ => rfl, fun _ _ => rfl⟩
  have hbug : (!s.ime && (s.cfg.haltBug && s.req != 0)) = true ↔ s.ime = false ∧ request s ≠ 0 ∧ s.cfg.haltBug = true := by
    rw [Bool.and_eq_true, Bool.and_eq_true, Bool.not_eq_true', bne_iff_ne, and_comm (a := s.cfg.haltBug = true)]
    exact Iff.rfl
  exact ⟨fun h => if_pos (hbug.mpr h), fun h => if_neg (mt hbug.mp h)⟩

end Sys2Proof.Proofs
end

section
/-! The proof of the statement about the flags (10_state.md R48): which shared operations leave F alone, then the rows of the opcode
maps that are made of them. -/

namespace Sys2Proof.Machine

/-! ## The forms that leave F alone -/

/-- The result, if it is a next state, has the F of `s`. -/
def KeepsF (s : State) (r : Result) : Prop := ∀ t, r = .next t → t.f = s.f

theorem keepsF_retire {s u : State} {k : Nat} (h : u.f = s.f) : KeepsF s (u.retire k) := by
  rintro t ht
  cases ht
  exact h

theorem KeepsF.of_eq {s : State} {r r' : Result} (h : r = r') (hk : KeepsF s r') : KeepsF s r := h ▸ hk

theorem KeepsF.ite {s : State} {r r' : Result} {p : Prop} [Decidable p] (h : KeepsF s r) (h' : KeepsF s r') :
    KeepsF s (if p then r else r') := by
  split
  · exact h
  · exact h'

section Forms

variable (s : State) (r r' : Reg8) (n : Byte) (v : Word) (k : Nat) (b : Fin 8) (p : Pair) (cc : Cond)

theorem keepsF_mkLdReg : KeepsF s (exec (mkLdReg r r') s) := .of_eq (exec_mkLdReg r r' s) (keepsF_retire (s.setReg_f r _))
theorem keepsF_mkLdImm : KeepsF s (exec (mkLdImm n r) s) := .of_eq (exec_mkLdImm n r s) (keepsF_retire (s.setReg_f r n))
theorem keepsF_mkLdFromHL : KeepsF s (exec (mkLdFromHL r) s) := .of_eq (exec_mkLdFromHL r s) (keepsF_retire (s.setReg_f r _))
theorem keepsF_mkLdToHL : KeepsF s (exec (mkLdToHL r) s) := .of_eq (exec_mkLdToHL r s) (keepsF_retire (s.writeByte_f _ _))
theorem keepsF_ldImmToHL : KeepsF s (ldImmToHL n s) := keepsF_retire (s.writeByte_f _ n)
theorem keepsF_ldAFrom : KeepsF s (ldAFrom v k s) := keepsF_retire rfl
theorem keepsF_ldATo : KeepsF s (ldATo v k s) := keepsF_retire (s.writeByte_f v _)
theorem keepsF_ldAFromHLThen : KeepsF s (ldAFromHLThen v s) := keepsF_retire rfl
theorem keepsF_ldAToHLThen : KeepsF s (ldAToHLThen v s) := keepsF_retire (by simp)
theorem keepsF_mkLdPair : KeepsF s (exec (mkLdPair v p) s) := .of_eq (exec_mkLdPair v p s) (keepsF_retire (s.setPair_f p v))
theorem keepsF_ldSpTo : KeepsF s (ldSpTo v s) := keepsF_retire (s.writeWord_f v _)
theorem keepsF_ldSpHL : KeepsF s (ldSpHL s) := keepsF_retire rfl
theorem keepsF_mkPush (q : StackPair) : KeepsF s (exec (mkPush q) s) := .of_eq (exec_mkPush q s) (keepsF_retire (s.push16_f _))

/-- POP writes F when it pops AF alone. -/
theorem keepsF_mkPop {q : StackPair} (hq : q ≠ .af) : KeepsF s (exec (mkPop q) s) := by
  cases q with
  | bc | de | hl => exact keepsF_retire rfl
  | af => contradiction

theorem keepsF_mkIncPair : KeepsF s (exec (mkIncPair p) s) := .of_eq (exec_mkIncPair p s) (keepsF_retire (s.setPair_f p _))
theorem keepsF_mkDecPair : KeepsF s (exec (mkDecPair p) s) := .of_eq (exec_mkDecPair p s) (keepsF_retire (s.setPair_f p _))
theorem keepsF_resReg : KeepsF s (resReg b r s) := keepsF_retire (s.setReg_f r _)
theorem keepsF_resHL : KeepsF s (resHL b s) := keepsF_retire (s.writeByte_f _ _)
theorem keepsF_setReg : KeepsF s (setReg b r s) := keepsF_retire (s.setReg_f r _)
theorem keepsF_setHL : KeepsF s (setHL b s) := keepsF_retire (s.writeByte_f _ _)
theorem keepsF_jump : KeepsF s (jump v k s) := keepsF_retire rfl
theorem keepsF_call : KeepsF s (call v k s) := keepsF_retire (s.push16_f _)
theorem keepsF_ret : KeepsF s (ret k s) := keepsF_retire rfl

theorem keepsF_mkJpCond : KeepsF s (exec (mkJpCond v cc) s) :=
  .of_eq (exec_mkJpCond v cc s) (.ite (keepsF_jump s v 16) (keepsF_retire rfl))

theorem keepsF_mkJrCond : KeepsF s (exec (mkJrCond n cc) s) :=
  .of_eq (exec_mkJrCond n cc s) (.ite (keepsF_jump s _ 12) (keepsF_retire rfl))

theorem keepsF_mkCallCond : KeepsF s (exec (mkCallCond v cc) s) :=
  .of_eq (exec_mkCallCond v cc s) (.ite (keepsF_call s v 24) (keepsF_retire rfl))

theorem keepsF_mkRetCond : KeepsF s (exec (mkRetCond cc) s) :=
  .of_eq (exec_mkRetCond cc s) (.ite (keepsF_ret s 20) (keepsF_retire rfl))

theorem keepsF_mkRst (t : Fin 8) : KeepsF s (exec (mkRst t) s) := .of_eq (exec_mkRst t s) (keepsF_call s _ 16)

theorem keepsF_reti : KeepsF s (reti s) :=
  .of_eq (congrArg (State.retire · 16) s.returnFromInterrupt_eq) (keepsF_retire rfl)

theorem keepsF_disable : KeepsF s (disable s) := .ite (keepsF_retire rfl) (keepsF_retire rfl)

theorem keepsF_halt : KeepsF s (halt s) := .ite (keepsF_retire rfl) (keepsF_retire rfl)

theorem keepsF_illegal (op : Byte) : KeepsF s (illegal op s) := by
  rintro t ht
  cases ht
  rfl

end Forms

/-! ## The rows of the opcode maps -/

section Rows

variable (s : State) {op : Byte} (n1 n2 : Byte)

/-- The quarter of the register loads and HALT. -/
theorem keepsF_decodeX1 (op : Byte) : KeepsF s (exec (decodeX1 op) s) := by
  unfold decodeX1
  split
  · exact keepsF_mkLdReg s _ _
  · exact keepsF_mkLdFromHL s _
  · exact keepsF_mkLdToHL s _
  · exact keepsF_halt s

/-- The rows of `decodeX0` that R160 marks as leaving F alone. -/
theorem keepsF_decodeX0 (h : fieldZ op ∈ [0, 2, 3, 6] ∨ fieldZ op = 1 ∧ fieldQ op = 0) : KeepsF s (exec (decodeX0 op n1 n2) s) := by
  have hy := fieldY_lt op
  unfold decodeX0
  generalize fieldZ op = z at *
  generalize fieldY op = y at *
  match z, y with
  | 0, 0 => exact keepsF_retire rfl
  | 0, 1 => exact keepsF_ldSpTo s _
  | 0, 2 => exact keepsF_retire rfl
  | 0, 3 => exact keepsF_jump s _ 12
  | 0, 4 | 0, 5 | 0, 6 | 0, 7 => exact keepsF_mkJrCond s n1 _
  | 1, _ =>
    have hq : fieldQ op = 0 := by simpa using h
    simp only [hq, if_true]
    exact keepsF_mkLdPair s _ _
  | 2, 0 | 2, 2 => exact keepsF_ldATo s _ 8
  | 2, 1 | 2, 3 => exact keepsF_ldAFrom s _ 8
  | 2, 4 | 2, 6 => exact keepsF_ldAToHLThen s _
  | 2, 5 | 2, 7 => exact keepsF_ldAFromHLThen s _
  | 3, _ =>
    by_cases hq : fieldQ op = 0
    · simp only [hq, if_true]; exact keepsF_mkIncPair s _
    · simp only [hq, if_false]; exact keepsF_mkDecPair s _
  | 6, y =>
    cases ho : operand8Field y with
    | reg r => simp only [ho]; exact keepsF_mkLdImm s r n1
    | mHL => simp only [ho]; exact keepsF_ldImmToHL s n1

/-- RES and SET, of a register or of the byte at HL. -/
theorem keepsF_decodeExtended {op2 : Byte} (h : 2 ≤ fieldX op2) : KeepsF s (exec (decodeExtended op2) s) := by
  rw [exec_decodeExtended]
  unfold extendedOp
  split
  next hx _ => omega
  next hx _ => omega
  next hx _ => omega
  next hx _ => omega
  · exact keepsF_resReg s _ _
  · exact keepsF_resHL s _
  · exact keepsF_setReg s _ _
  · exact keepsF_setHL s _

/-- The rows of `decodeX3` that R160 marks as leaving F alone. -/
theorem keepsF_decodeX3 (h : fieldZ op ∈ [2, 4, 5, 7] ∨ fieldZ op = 0 ∧ fieldY op ≠ 5 ∧ fieldY op ≠ 7 ∨
    fieldZ op = 1 ∧ fieldY op ≠ 6 ∨ fieldZ op = 3 ∧ (fieldY op = 1 → 2 ≤ fieldX n1)) :
    KeepsF s (exec (decodeX3 op n1 n2) s) := by
  have hy := fieldY_lt op
  have hp : fieldP op = fieldY op / 2 := by unfold fieldP fieldY; omega
  unfold decodeX3
  rw [hp]
  generalize fieldZ op = z at *
  generalize fieldY op = y at *
  match z, y with
  | 0, 0 | 0, 1 | 0, 2 | 0, 3 => exact keepsF_mkRetCond s _
  | 0, 4 => exact keepsF_ldATo s _ 12
  | 0, 5 => simp at h
  | 0, 6 => exact keepsF_ldAFrom s _ 12
  | 0, 7 => simp at h
  | 1, 0 | 1, 2 | 1, 4 => exact keepsF_mkPop s nofun
  | 1, 1 => exact keepsF_ret s 16
  | 1, 3 => exact keepsF_reti s
  | 1, 5 => exact keepsF_jump s _ 4
  | 1, 6 => simp at h
  | 1, 7 => exact keepsF_ldSpHL s
  | 2, 0 | 2, 1 | 2, 2 | 2, 3 => exact keepsF_mkJpCond s _ _
  | 2, 4 => exact keepsF_ldATo s _ 8
  | 2, 5 => exact keepsF_ldATo s _ 16
  | 2, 6 => exact keepsF_ldAFrom s _ 8
  | 2, 7 => exact keepsF_ldAFrom s _ 16
  | 3, 0 => exact keepsF_jump s _ 16
  | 3, 1 => exact keepsF_decodeExtended s (by simpa using h)
  | 3, 2 | 3, 3 | 3, 4 | 3, 5 => exact keepsF_illegal s _
  | 3, 6 => exact keepsF_disable s
  | 3, 7 => exact keepsF_retire rfl
  | 4, 0 | 4, 1 | 4, 2 | 4, 3 => exact keepsF_mkCallCond s _ _
  | 4, 4 | 4, 5 | 4, 6 | 4, 7 => exact keepsF_illegal s _
  | 5, 0 | 5, 2 | 5, 4 | 5, 6 => exact keepsF_mkPush s _
  | 5, 1 => exact keepsF_call s _ 24
  | 5, 3 | 5, 5 | 5, 7 => exact keepsF_illegal s _
  | 7, y => exact keepsF_mkRst s _

end Rows

end Sys2Proof.Machine

/-! ## The statement -/

namespace Sys2Proof.Proofs

open Sys2Proof.Machine Sys2Proof.Claims

/-- Settles O15: the classes of the statement are rows of the four quarters of the primary table and of the extended table. -/
theorem flagsOnlyByTheirWriters : Obligations.FlagsOnlyByTheirWriters := by
  intro op n1 n2 s t hexec h
  refine (?_ : KeepsF s (exec (decodeOp op n1 n2) s)) t hexec
  clear hexec
  simp only [List.mem_cons, List.not_mem_nil, or_false] at h
  unfold decodeOp
  match hx : fieldX op, fieldX_lt op with
  | 0, _ =>
    refine keepsF_decodeX0 s n1 n2 ?_
    simp only [List.mem_cons, List.not_mem_nil, or_false]
    unfold fieldX at hx
    unfold fieldZ fieldQ
    bv_omega
  | 1, _ => exact keepsF_decodeX1 s op
  | 2, _ =>
    unfold fieldX at hx
    bv_omega
  | 3, _ =>
    refine keepsF_decodeX3 s n1 n2 ?_
    simp only [List.mem_cons, List.not_mem_nil, or_false]
    unfold fieldX at hx
    unfold fieldX fieldY fieldZ
    bv_omega

end Sys2Proof.Proofs
end

section
/-! The proofs of the statements about the invariant (10_state.md, 20_memory.md): what a list in canonical form is, the parts of the
invariant, and that every step, every move of the host and the environment, and power-on meet them. -/

namespace Sys2Proof.Machine

open Sys2Proof.Claims

/-! ## The canonical form -/

namespace Memory

theorem risingFrom_cons {lo k : Nat} {v : Byte} {m : Memory} :
    risingFrom lo ((k, v) :: m) = true ↔ lo ≤ k ∧ v ≠ unlistedByte ∧ risingFrom (k + 1) m = true := by
  simp [risingFrom, and_assoc]

theorem read_cons_self (k : Nat) (v : Byte) (m : Memory) : read ((k, v) :: m) k = v := if_pos rfl

theorem read_cons_of_lt {k key : Nat} (h : k < key) (v : Byte) (m : Memory) : read ((k, v) :: m) key = m.read key :=
  if_neg (by omega)

/-- A list does not start after a key that reads as listed. -/
theorem le_of_read_ne {m : Memory} {lo key : Nat} (h : risingFrom lo m = true) (hread : m.read key ≠ unlistedByte) : lo ≤ key :=
  Nat.le_of_not_lt fun hlt => hread (read_of_lt h hlt)

/-- The first keys agree, since each reads as listed in the other list; so do their bytes, and the tails read alike. -/
theorem eq_of_read_eq {m m' : Memory} {lo lo' : Nat} (h : risingFrom lo m = true) (h' : risingFrom lo' m' = true)
    (hread : ∀ key, read m key = read m' key) : m = m' := by
  induction m generalizing m' lo lo' with
  | nil =>
    cases m' with
    | nil => rfl
    | cons cell' m' =>
      obtain ⟨-, hv', -⟩ := risingFrom_cons.mp h'
      exact absurd ((read_cons_self ..).symm.trans (hread cell'.1).symm) hv'
  | cons cell m ih =>
    obtain ⟨k, v⟩ := cell
    obtain ⟨-, hv, hm⟩ := risingFrom_cons.mp h
    have hk := hread k
    rw [read_cons_self] at hk
    cases m' with
    | nil => exact absurd hk hv
    | cons cell' m' =>
      obtain ⟨k', v'⟩ := cell'
      obtain ⟨-, hv', hm'⟩ := risingFrom_cons.mp h'
      have hk' := hread k'
      rw [read_cons_self] at hk'
      have hle : k' ≤ k := le_of_read_ne (risingFrom_cons.mpr ⟨Nat.le_refl _, hv', hm'⟩) (hk ▸ hv)
      have hle' : k ≤ k' := le_of_read_ne (risingFrom_cons.mpr ⟨Nat.le_refl _, hv, hm⟩) (hk'.symm ▸ hv')
      obtain rfl : k = k' := Nat.le_antisymm hle' hle
      rw [read_cons_self] at hk
      have htail : ∀ key, read m key = read m' key := by
        intro key
        by_cases hlt : k < key
        · rw [← read_cons_of_lt hlt v m, hread key, read_cons_of_lt hlt]
        · rw [read_of_lt hm (by omega), read_of_lt hm' (by omega)]
      rw [hk, ih hm hm' htail]

end Memory

/-! ## The parts of the invariant -/

/-- The three facts that `Banked.ok` states of a switchable region. -/
theorem Banked.ok_iff {x : Banked} {r : Region} : x.ok r = true ↔
    x.data.wf = true ∧ x.data.keysIn (fun k => k < x.count * r.size) = true ∧
      (0 < x.count → x.index < x.count ∧ x.init < x.count) := by
  simp only [Banked.ok, Bool.and_eq_true, Bool.or_eq_true, beq_iff_eq, decide_eq_true_eq]
  refine and_congr_right fun _ => and_congr_right fun _ => ⟨fun h hpos => h.resolve_left (Nat.ne_of_gt hpos), fun h => ?_⟩
  exact (Nat.eq_zero_or_pos x.count).imp_right h

/-- The part of the invariant that memory and the banks carry: canonical lists of bytes that exist, and indices in range. -/
structure State.MemoryOk (s : State) : Prop where
  wf : s.mem.wf = true
  keys : s.mem.keysIn fixedKey = true
  rom1 : s.rom1.ok .rom1 = true
  eram : s.eram.ok .eram = true
  wram1 : s.wram1.ok .wram1 = true

theorem State.inv_iff {s : State} : s.inv = true ↔
    s.f &&& 0x0F = 0 ∧ s.MemoryOk ∧ (s.haltBug = true → s.mode = .running) ∧ s.faultOk = true := by
  simp only [State.inv, Bool.and_eq_true, beq_iff_eq, Bool.or_eq_true, Bool.not_eq_true']
  constructor
  · rintro ⟨hf, hwf, hkeys, hrom1, heram, hwram1, hbug, hfault⟩
    exact ⟨hf, ⟨hwf, hkeys, hrom1, heram, hwram1⟩, fun hb => hbug.resolve_left (ne_false_of_eq_true hb), hfault⟩
  · rintro ⟨hf, ⟨hwf, hkeys, hrom1, heram, hwram1⟩, hbug, hfault⟩
    refine ⟨hf, hwf, hkeys, hrom1, heram, hwram1, ?_, hfault⟩
    cases hb : s.haltBug with
    | false => exact .inl rfl
    | true => exact .inr (hbug hb)

theorem State.faultOk_of_none {s : State} (h : s.fault = none) : s.faultOk = true := by
  rw [State.faultOk, h]

/-- An illegal byte is recorded, and returned (R421). -/
theorem State.faultOk_raiseIllegal (s : State) {op : Byte} (h : op ∈ illegalBytes) : (s.raiseIllegal op).faultOk = true := by
  simp [State.faultOk, h]

theorem State.faultOk_congr {s t : State} (hfault : t.fault = s.fault) (hout : t.out = s.out) : t.faultOk = s.faultOk := by
  rw [State.faultOk, State.faultOk, hfault, hout]

/-! ## A byte write -/

theorem Banked.ok_write {x : Banked} {r : Region} (h : x.ok r = true) {off : Nat} (hoff : off < x.count * r.size) (v : Byte) :
    ({ x with data := x.data.write off v } : Banked).ok r = true := by
  obtain ⟨hwf, hkeys, hindex⟩ := Banked.ok_iff.mp h
  exact Banked.ok_iff.mpr ⟨Memory.wf_write hwf off v, Memory.keysIn_write hkeys (decide_eq_true hoff) v, hindex⟩

/-- A byte of a region that is not banked is kept under its CPU address. -/
theorem fixedKey_base_add {r : Region} {off : Nat} (hrom1 : r ≠ .rom1) (heram : r ≠ .eram) (hwram1 : r ≠ .wram1) (h : off < r.size) :
    fixedKey (r.base + off) = true := by
  simp only [fixedKey, ramKey, Bool.or_eq_true, Bool.and_eq_true, decide_eq_true_eq]
  cases r with
  | rom1 | eram | wram1 => contradiction
  | _ => simp only [Region.size, Region.base] at h ⊢; omega

namespace State.MemoryOk

variable {s t : State}

theorem sameMemory (h : s.MemoryOk) (hm : SameMemory s t) : t.MemoryOk :=
  ⟨hm.mem ▸ h.wf, hm.mem ▸ h.keys, hm.rom1 ▸ h.rom1, hm.eram ▸ h.eram, hm.wram1 ▸ h.wram1⟩

theorem storeCell (h : s.MemoryOk) {r : Region} {off : Nat} (hb : s.hasByte r off = true) (hrom1 : r ≠ .rom1) (v : Byte) :
    (s.storeCell r off v).MemoryOk := by
  have hfixed : r ≠ .rom1 → r ≠ .eram → r ≠ .wram1 → off < r.size → fixedKey (r.base + off) = true := fixedKey_base_add
  cases r with
  | rom1 => contradiction
  | eram => exact ⟨h.wf, h.keys, h.rom1, Banked.ok_write h.eram (of_decide_eq_true hb) v, h.wram1⟩
  | wram1 => exact ⟨h.wf, h.keys, h.rom1, h.eram, Banked.ok_write h.wram1 (of_decide_eq_true hb) v⟩
  | _ =>
    have hkey := hfixed nofun nofun nofun (of_decide_eq_true hb)
    exact ⟨Memory.wf_write h.wf _ v, Memory.keysIn_write h.keys hkey v, h.rom1, h.eram, h.wram1⟩

/-- A write lands in a byte that exists, or changes nothing. -/
theorem writeByte (h : s.MemoryOk) (addr : Word) (v : Byte) : (s.writeByte addr v).MemoryOk := by
  obtain ⟨-, hw⟩ | ⟨r, off, -, -, hb, -, hrom1, hw⟩ := s.writeByte_cases addr v
  · rwa [hw]
  · rw [hw]
    obtain ⟨hwf, hkeys, hr, he, hw1⟩ := h.storeCell hb hrom1 v
    exact ⟨hwf, hkeys, hr, he, hw1⟩

theorem writeAll (h : s.MemoryOk) (ws : List (Word × Byte)) : (s.writeAll ws).MemoryOk := by
  induction ws generalizing s with
  | nil => exact h
  | cons w ws ih => exact ih (h.writeByte w.1 w.2)

/-- A step reaches memory by byte writes alone. -/
theorem step (h : s.MemoryOk) (hstep : Machine.step s = .next t) : t.MemoryOk := by
  obtain ⟨ws, hm⟩ := step_writes hstep
  exact (h.writeAll ws).sameMemory hm

end State.MemoryOk

theorem State.inv_writeByte {s : State} (h : s.inv = true) (addr : Word) (v : Byte) : (s.writeByte addr v).inv = true := by
  obtain ⟨hf, hm, hbug, hfault⟩ := State.inv_iff.mp h
  refine State.inv_iff.mpr ⟨by simpa using hf, hm.writeByte addr v, by simpa using hbug, ?_⟩
  rwa [State.faultOk_congr (s.writeByte_fault addr v) (s.writeByte_out addr v)]

/-! ## Images -/

/-- R102: a bank fits a region when it is declared for its range and has its size. -/
theorem BankImage.fits_iff {x : BankImage} {r : Region} : x.fits r = true ↔
    x.first = r.base ∧ x.last = r.base + r.size - 1 ∧ x.bytes.length = r.size := by
  simp only [BankImage.fits, Bool.and_eq_true, beq_iff_eq]

/-- What the checks of R102 found, in their order, and what they answer (log 14). -/
inductive BankCheck (r : Region) (count init : Nat) (banks : List BankImage) : Option HostError → Prop where
  | miscounted (h : banks.length ≠ count) : BankCheck r count init banks (some .bankCountMismatch)
  | misfit (hcount : banks.length = count) (h : ¬ ∀ x ∈ banks, x.fits r = true) : BankCheck r count init banks (some .invalidBankRange)
  | outOfRange (hcount : banks.length = count) (hfit : ∀ x ∈ banks, x.fits r = true) (h : ¬ (0 < count → init < count)) :
    BankCheck r count init banks (some (.bankIndexOutOfRange init))
  | passed (hcount : banks.length = count) (hfit : ∀ x ∈ banks, x.fits r = true) (hinit : 0 < count → init < count) :
    BankCheck r count init banks none

theorem bankCheck (r : Region) (count init : Nat) (banks : List BankImage) :
    BankCheck r count init banks (checkBanks r count init banks) := by
  unfold checkBanks
  split
  next hcount => exact .miscounted (bne_iff_ne.mp hcount)
  next hcount =>
    have hcount : banks.length = count := by simpa using hcount
    split
    next hfit => exact .misfit hcount (by simpa using hfit)
    next hfit =>
      have hfit : ∀ x ∈ banks, x.fits r = true := by simpa using hfit
      split
      next hinit => exact .outOfRange hcount hfit (by omega)
      next hinit => exact .passed hcount hfit (by omega)

theorem length_flatMap_bytes {r : Region} {banks : List BankImage} (h : ∀ x ∈ banks, x.fits r = true) :
    (banks.flatMap BankImage.bytes).length = banks.length * r.size := by
  induction banks with
  | nil => simp
  | cons x xs ih =>
    obtain ⟨hx, hxs⟩ := List.forall_mem_cons.mp h
    obtain ⟨-, -, hlen⟩ := BankImage.fits_iff.mp hx
    rw [List.flatMap_cons, List.length_append, ih hxs, hlen, List.length_cons]
    rw [Nat.succ_mul, Nat.add_comm]

/-- A region whose loader's data passed the checks of R102. -/
theorem Banked.ok_of_checkBanks {r : Region} {count init : Nat} {banks : List BankImage} (h : checkBanks r count init banks = none) :
    (⟨count, init, init, bankData banks⟩ : Banked).ok r = true := by
  have hcheck := bankCheck r count init banks
  rw [h] at hcheck
  cases hcheck with
  | passed hcount hfit hinit =>
    refine Banked.ok_iff.mpr ⟨Memory.risingFrom_ofBytes 0 _, ?_, fun hpos => ⟨hinit hpos, hinit hpos⟩⟩
    have hkeys := Memory.keysIn_ofBytes 0 (banks.flatMap BankImage.bytes)
    rwa [length_flatMap_bytes hfit, hcount, Nat.zero_add] at hkeys

/-- The image of ROM0 is laid below what memory holds from 0x4000 on. -/
theorem State.MemoryOk.fixedROM {s : State} (h : s.MemoryOk) {x : BankImage} (hx : x.fits .rom0 = true) (loader : Loader) :
    ({ s with mem := Memory.ofBytes 0 x.bytes ++ Memory.dropBelow 0x4000 s.mem, loader } : State).MemoryOk := by
  obtain ⟨-, -, hlen⟩ := BankImage.fits_iff.mp hx
  have himage := Memory.keysIn_ofBytes 0 x.bytes
  rw [hlen] at himage
  refine ⟨Memory.risingFrom_append (Memory.risingFrom_ofBytes 0 x.bytes) himage (Memory.risingFrom_dropBelow h.wf 0x4000) (by decide),
    Memory.keysIn_append (Memory.keysIn_imp himage fun k hk => ?_) (Memory.keysIn_dropBelow h.keys 0x4000), h.rom1, h.eram, h.wram1⟩
  exact Bool.or_eq_true_iff.mpr (.inl (by simpa [Region.size] using hk))

/-! ## Bank selection -/

theorem Banked.ok_select {x y : Banked} {r : Region} {i : Nat} (h : x.ok r = true) (hy : x.select i = some y) : y.ok r = true := by
  obtain ⟨hi, hy⟩ := Option.ite_none_right_eq_some.mp hy
  cases hy
  obtain ⟨hwf, hkeys, hindex⟩ := Banked.ok_iff.mp h
  exact Banked.ok_iff.mpr ⟨hwf, hkeys, fun hpos => ⟨hi, (hindex hpos).2⟩⟩

theorem Banked.ok_readdress {x : Banked} {r : Region} (h : x.ok r = true) : x.readdress.ok r = true := by
  obtain ⟨hwf, hkeys, hindex⟩ := Banked.ok_iff.mp h
  exact Banked.ok_iff.mpr ⟨hwf, hkeys, fun hpos => ⟨(hindex hpos).2, (hindex hpos).2⟩⟩

/-! ## The moves of the host and the environment -/

/-- Whatever state a reply to a move gives meets the invariant. -/
def HostReply.KeepsInv : HostReply → Prop
  | .ok t => t.inv = true
  | .error _ t => t.inv = true
  | .notAMove => True

theorem HostReply.KeepsInv.of_state? {t : State} {reply : HostReply} (h : reply.KeepsInv) (ht : reply.state? = some t) :
    t.inv = true := by
  cases reply with
  | ok u => cases ht; exact h
  | error e u => cases ht; exact h
  | notAMove => cases ht

section Moves

variable {s : State} (h : s.inv = true)
include h

theorem State.keepsInv_initFixedROM (x : BankImage) : (s.initFixedROM x).KeepsInv := by
  unfold State.initFixedROM
  split
  · trivial
  · split
    next hx =>
      obtain ⟨hf, hm, hbug, hfault⟩ := State.inv_iff.mp h
      exact State.inv_iff.mpr ⟨hf, hm.fixedROM hx _, hbug, hfault⟩
    next => exact h

theorem State.keepsInv_initSwitchableROM (count init : Nat) (banks : List BankImage) :
    (s.initSwitchableROM count init banks).KeepsInv := by
  unfold State.initSwitchableROM
  split
  · trivial
  · split
    next => exact h
    next hcheck =>
      obtain ⟨hf, hm, hbug, hfault⟩ := State.inv_iff.mp h
      exact State.inv_iff.mpr ⟨hf, ⟨hm.wf, hm.keys, Banked.ok_of_checkBanks hcheck, hm.eram, hm.wram1⟩, hbug, hfault⟩

theorem State.keepsInv_initExternalRAM (count init : Nat) (persistent : Bool) (banks : List BankImage) :
    (s.initExternalRAM count init persistent banks).KeepsInv := by
  unfold State.initExternalRAM
  split
  · trivial
  · split
    next => exact h
    next hcheck =>
      obtain ⟨hf, hm, hbug, hfault⟩ := State.inv_iff.mp h
      exact State.inv_iff.mpr ⟨hf, ⟨hm.wf, hm.keys, hm.rom1, Banked.ok_of_checkBanks hcheck, hm.wram1⟩, hbug, hfault⟩

theorem State.keepsInv_setSwitchableROMBank (i : Nat) : (s.setSwitchableROMBank i).KeepsInv := by
  unfold State.setSwitchableROMBank
  split
  next x hx =>
    obtain ⟨hf, hm, hbug, hfault⟩ := State.inv_iff.mp h
    exact State.inv_iff.mpr ⟨hf, ⟨hm.wf, hm.keys, Banked.ok_select hm.rom1 hx, hm.eram, hm.wram1⟩, hbug, hfault⟩
  next => exact h

theorem State.keepsInv_setSwitchableWRAMBank (i : Nat) : (s.setSwitchableWRAMBank i).KeepsInv := by
  unfold State.setSwitchableWRAMBank
  split
  next x hx =>
    obtain ⟨hf, hm, hbug, hfault⟩ := State.inv_iff.mp h
    exact State.inv_iff.mpr ⟨hf, ⟨hm.wf, hm.keys, hm.rom1, hm.eram, Banked.ok_select hm.wram1 hx⟩, hbug, hfault⟩
  next => exact h

theorem State.keepsInv_setExternalRAMBank (i : Nat) : (s.setExternalRAMBank i).KeepsInv := by
  unfold State.setExternalRAMBank
  split
  next x hx =>
    obtain ⟨hf, hm, hbug, hfault⟩ := State.inv_iff.mp h
    exact State.inv_iff.mpr ⟨hf, ⟨hm.wf, hm.keys, hm.rom1, Banked.ok_select hm.eram hx, hm.wram1⟩, hbug, hfault⟩
  next => exact h

theorem State.inv_hostReset : s.hostReset.inv = true := by
  obtain ⟨-, hm, -, -⟩ := State.inv_iff.mp h
  have hmem : s.hostReset.MemoryOk := ⟨Memory.wf_applyIoBoot hm.wf _, Memory.keysIn_applyIoBoot hm.keys _,
    Banked.ok_readdress hm.rom1, Banked.ok_readdress hm.eram, Banked.ok_readdress hm.wram1⟩
  exact State.inv_iff.mpr ⟨and_F0_low _, hmem, nofun, rfl⟩

theorem State.inv_wake : s.wake.inv = true := by
  by_cases hm : s.mode = .stopped
  · rw [State.wake_of_stopped hm]
    obtain ⟨hf, hmem, -, hfault⟩ := State.inv_iff.mp h
    obtain ⟨hwf, hkeys, hrom1, heram, hwram1⟩ := hmem
    exact State.inv_iff.mpr ⟨hf, ⟨hwf, hkeys, hrom1, heram, hwram1⟩, fun _ => rfl, hfault⟩
  · rwa [State.wake_of_not_stopped hm]

theorem State.keepsInv_sendInterrupt (n : Nat) : (s.sendInterrupt n).KeepsInv := by
  unfold State.sendInterrupt
  split
  · exact State.inv_writeByte h _ _
  · trivial

theorem State.keepsInv_envWrite (addr : Word) (v : Byte) : (s.envWrite addr v).KeepsInv := by
  unfold State.envWrite
  split
  · exact State.inv_writeByte h addr v
  · trivial

theorem HostMove.keepsInv (m : HostMove) : (m.apply s).KeepsInv := by
  cases m with
  | initFixedROM x => exact State.keepsInv_initFixedROM h x
  | initSwitchableROM count init banks => exact State.keepsInv_initSwitchableROM h count init banks
  | initExternalRAM count init persistent banks => exact State.keepsInv_initExternalRAM h count init persistent banks
  | setSwitchableROMBank i => exact State.keepsInv_setSwitchableROMBank h i
  | setSwitchableWRAMBank i => exact State.keepsInv_setSwitchableWRAMBank h i
  | setExternalRAMBank i => exact State.keepsInv_setExternalRAMBank h i
  | reset => exact State.inv_hostReset h
  | wake => exact State.inv_wake h
  | sendInterrupt n => exact State.keepsInv_sendInterrupt h n
  | envWrite addr v => exact State.keepsInv_envWrite h addr v
  | clearDirty => exact h

end Moves

end Sys2Proof.Machine

/-! ## The statements -/

namespace Sys2Proof.Proofs

open Sys2Proof.Machine Sys2Proof.Claims

/-- Settles O32: canonical lists that read alike are equal cell by cell. -/
theorem canonicalMemoryIsUnique : Obligations.CanonicalMemoryIsUnique :=
  fun _ _ hm hm' => Memory.eq_of_read_eq hm hm'

/-- Settles O17: memory by the byte writes of a step, and F, the halt bug and the fault by its cases. -/
theorem invariantStep : Obligations.InvariantStep := by
  intro s t hinv h
  obtain ⟨hf, hm, hbug, -⟩ := State.inv_iff.mp hinv
  obtain ⟨hnone, hcase⟩ := step_cases h
  suffices hrest : t.f &&& 0x0F = 0 ∧ (t.haltBug = true → t.mode = .running) ∧ t.faultOk = true by
    obtain ⟨hf', hcontrol⟩ := hrest
    exact State.inv_iff.mpr ⟨hf', hm.step h, hcontrol⟩
  cases hcase with
  | idle _ ht => subst ht; exact ⟨hf, hbug, State.faultOk_of_none hnone⟩
  | entry _ ht =>
    subst ht
    exact ⟨s.interruptEntry_f.symm ▸ hf, fun _ => s.interruptEntry_mode, State.faultOk_of_none (s.interruptEntry_fault.trans hnone)⟩
  | illegal _ hop ht => subst ht; exact ⟨hf, hbug, s.faultOk_raiseIllegal hop⟩
  | ran _ hlegal heffect =>
    refine ⟨heffect.low (by rwa [s.issue_f]), fun hb => ?_,
      State.faultOk_of_none (heffect.fault_eq.trans ((s.issue_fault _).trans hnone))⟩
    have hbug' := heffect.haltBug
    rw [s.issue_legal hlegal, hb] at hbug'
    obtain hclear | ⟨-, hmode⟩ := hbug'
    · cases hclear
    · exact hmode

/-- Settles O18: move by move. -/
theorem invariantHostMoves : Obligations.InvariantHostMoves :=
  fun _ _ m hinv ht => (HostMove.keepsInv hinv m).of_state? ht

/-- Settles O16: at reset no byte is listed, and every bank count is 0 or exceeds its index. -/
theorem invariantAtReset : Obligations.InvariantAtReset := rfl

/-- Settles O19: the draw of `INIT_MEM` is laid out in canonical form. -/
theorem invariantAtPowerOn : Obligations.InvariantAtPowerOn := by
  intro cfg initMem initWram1 hinit
  obtain ⟨hwf, hkeys⟩ := Memory.ofCells_ok ramKey initMem
  obtain ⟨hwf', hkeys'⟩ := Memory.ofCells_ok (fun k => k < cfg.wram1Banks * 0x1000) initWram1
  have hfixed : (Memory.ofCells ramKey initMem).keysIn fixedKey = true :=
    Memory.keysIn_imp hkeys fun k hk => Bool.or_eq_true_iff.mpr (.inr hk)
  exact State.inv_iff.mpr ⟨and_F0_low _, ⟨Memory.wf_applyIoBoot hwf _, Memory.keysIn_applyIoBoot hfixed _, rfl, rfl,
    Banked.ok_iff.mpr ⟨hwf', hkeys', fun _ => ⟨hinit, hinit⟩⟩⟩, nofun, rfl⟩

/-- Settles O20: `bootRegisters` writes the registers and the run control out, at power-on and at a host reset. -/
theorem resetRegisters : Obligations.ResetRegisters := by
  refine ⟨fun cfg m w s t ht => ?_, ?_⟩
  · simp only [List.mem_cons, List.not_mem_nil, or_false] at ht
    obtain rfl | rfl := ht
    · exact ⟨rfl, rfl, rfl, rfl, rfl, rfl, rfl, rfl, rfl, rfl, rfl, rfl, rfl, rfl, rfl⟩
    · exact ⟨rfl, rfl, rfl, rfl, rfl, rfl, rfl, rfl, rfl, rfl, rfl, rfl, rfl, rfl, rfl⟩
  · exact ⟨rfl, rfl, rfl, rfl, rfl, rfl, rfl, rfl, rfl, rfl, rfl, rfl, rfl⟩

end Sys2Proof.Proofs
end

section
/-! The proofs of the statements about what the host and the environment may write (60_exceptions.md R431) and about the initialisation
commands (20_memory.md R102): what a port of `ENV_WRITES` allows, bit by bit, and what the checks of the loader let through. -/

namespace Sys2Proof.Machine

open Sys2Proof.Claims

/-! ## The ports of the environment -/

theorem State.envNamesBit_iff {s : State} {addr : Word} {n : Nat} :
    s.envNamesBit addr n = true ↔ ∃ p ∈ s.cfg.envWrites, p.addr = addr ∧ p.mask.getLsbD n = true := by
  simp [State.envNamesBit]

/-- The default `ENV_WRITES` names the five lines of IF (R424). -/
theorem State.envNamesBit_default {s : State} (h : s.cfg.envWrites = ({} : Config).envWrites) {n : Nat} (hn : n ≤ 4) :
    s.envNamesBit addrIF n = true := by
  have hmask : ∀ n < 5, (0x1F : Byte).getLsbD n = true := by decide
  exact State.envNamesBit_iff.mpr ⟨⟨0xFF0F, 0x1F, true⟩, by simp [h], rfl, hmask n (by omega)⟩

theorem State.sendInterrupt_ok {s : State} {n : Nat} (hn : n ≤ 4) (h : s.envNamesBit addrIF n = true) :
    s.sendInterrupt n = .ok (s.writeByte addrIF (s.readByte addrIF ||| (1#8 <<< n))) :=
  if_pos (by rw [h, decide_eq_true hn]; rfl)

theorem State.sendInterrupt_notAMove {s : State} {n : Nat} (h : n ≤ 4 → s.envNamesBit addrIF n ≠ true) :
    s.sendInterrupt n = .notAMove := by
  refine if_neg fun hmove => ?_
  obtain ⟨hn, hbit⟩ := Bool.and_eq_true_iff.mp hmove
  exact h (of_decide_eq_true hn) hbit

theorem byte_eq_zero_iff {v : Byte} : v = 0 ↔ ∀ k < 8, v.getLsbD k = false := by
  simp [BitVec.eq_of_getLsbD_eq_iff]

/-- What `portAllows` says of one bit: `old` becomes `new` under the bit `mask` of a port that may only set bits if `setOnly`. -/
theorem portAllows_bit : ∀ old new mask setOnly : Bool, ((old ^^ new) && !mask) = false ∧ (setOnly = true → (old && !new) = false) ↔
    new = old ∨ mask = true ∧ (setOnly = true → new = true) := by
  decide

/-- A port allows a byte to become `new` bit by bit: a bit is as before, or it is one of the mask and, if the port may only set bits,
set (log 17). -/
theorem portAllows_iff {p : EnvPort} {old new : Byte} : portAllows p old new = true ↔
    ∀ k < 8, new.getLsbD k = old.getLsbD k ∨ p.mask.getLsbD k = true ∧ (p.setOnly = true → new.getLsbD k = true) := by
  have hports : portAllows p old new = true ↔ (∀ k < 8, ((old.getLsbD k ^^ new.getLsbD k) && !p.mask.getLsbD k) = false) ∧
      (p.setOnly = true → ∀ k < 8, (old.getLsbD k && !new.getLsbD k) = false) := by
    have hmask : ∀ k < 8, ((old ^^^ new) &&& ~~~p.mask).getLsbD k = ((old.getLsbD k ^^ new.getLsbD k) && !p.mask.getLsbD k) :=
      fun k hk => by simp only [BitVec.getLsbD_and, BitVec.getLsbD_xor, BitVec.getLsbD_not, hk, decide_true, Bool.true_and]
    have hset : ∀ k < 8, (old &&& ~~~new).getLsbD k = (old.getLsbD k && !new.getLsbD k) :=
      fun k hk => by simp only [BitVec.getLsbD_and, BitVec.getLsbD_not, hk, decide_true, Bool.true_and]
    rw [portAllows, Bool.and_eq_true, Bool.or_eq_true, beq_iff_eq, beq_iff_eq, byte_eq_zero_iff, byte_eq_zero_iff]
    refine and_congr (forall_congr' fun k => forall_congr' fun hk => by rw [hmask k hk]) ?_
    cases p.setOnly with
    | false => exact iff_of_true (.inl rfl) nofun
    | true =>
      exact ⟨fun h _ k hk => hset k hk ▸ h.resolve_left nofun k hk, fun h => .inr fun k hk => (hset k hk).trans (h rfl k hk)⟩
  rw [hports]
  constructor
  · rintro ⟨hmask, hset⟩ k hk
    exact (portAllows_bit ..).mp ⟨hmask k hk, fun hs => hset hs k hk⟩
  · intro h
    exact ⟨fun k hk => ((portAllows_bit ..).mpr (h k hk)).1, fun hs k hk => ((portAllows_bit ..).mpr (h k hk)).2 hs⟩

/-- The two ports of the default `ENV_WRITES` are LY and IF (R431). -/
theorem mem_envWrites_default {p : EnvPort} :
    p ∈ ({} : Config).envWrites ↔ p = ⟨0xFF44, 0xFF, false⟩ ∨ p = ⟨0xFF0F, 0x1F, true⟩ := by
  rw [show ({} : Config).envWrites = [⟨0xFF44, 0xFF, false⟩, ⟨0xFF0F, 0x1F, true⟩] from rfl, List.mem_cons, List.mem_singleton]

/-- What the two ports of the default allow (R431). -/
theorem envWrites_default_allow (addr : Word) (old new : Byte) :
    (∃ p ∈ ({} : Config).envWrites, p.addr = addr ∧ portAllows p old new = true) ↔
      addr = 0xFF44 ∨ addr = 0xFF0F ∧ ∀ k < 8, new.getLsbD k = old.getLsbD k ∨ k < 5 ∧ new.getLsbD k = true := by
  have hLY : portAllows ⟨0xFF44, 0xFF, false⟩ old new = true := by
    have hmask : ∀ k < 8, (0xFF : Byte).getLsbD k = true := by decide
    exact portAllows_iff.mpr fun k hk => .inr ⟨hmask k hk, nofun⟩
  have hIF : portAllows ⟨0xFF0F, 0x1F, true⟩ old new = true ↔
      ∀ k < 8, new.getLsbD k = old.getLsbD k ∨ k < 5 ∧ new.getLsbD k = true := by
    have hmask : ∀ k < 8, (0x1F : Byte).getLsbD k = true ↔ k < 5 := by decide
    rw [portAllows_iff]
    exact forall_congr' fun k => forall_congr' fun hk => or_congr Iff.rfl (and_congr (hmask k hk) (forall_prop_of_true rfl))
  constructor
  · rintro ⟨p, hp, rfl, hallow⟩
    obtain rfl | rfl := mem_envWrites_default.mp hp
    · exact .inl rfl
    · exact .inr ⟨rfl, hIF.mp hallow⟩
  · rintro (rfl | ⟨rfl, hbits⟩)
    · exact ⟨_, mem_envWrites_default.mpr (.inl rfl), rfl, hLY⟩
    · exact ⟨_, mem_envWrites_default.mpr (.inr rfl), rfl, hIF.mpr hbits⟩

theorem State.envWrite_ok {s : State} {addr : Word} {v : Byte}
    (h : ∃ p ∈ s.cfg.envWrites, p.addr = addr ∧ portAllows p (s.readByte addr) v = true) :
    s.envWrite addr v = .ok (s.writeByte addr v) :=
  if_pos (by simpa using h)

theorem State.envWrite_notAMove {s : State} {addr : Word} {v : Byte}
    (h : ¬ ∃ p ∈ s.cfg.envWrites, p.addr = addr ∧ portAllows p (s.readByte addr) v = true) : s.envWrite addr v = .notAMove :=
  if_neg (by simpa using h)

/-! ## The bytes of an image -/

/-- Banks of one size, laid end to end: byte `off` of bank `i` stands at `i * size + off`. -/
theorem getElem?_flatMap_bytes {r : Region} {banks : List BankImage} (h : ∀ x ∈ banks, x.fits r = true) {i off : Nat}
    (hi : i < banks.length) (ho : off < banks[i].bytes.length) :
    (banks.flatMap BankImage.bytes)[i * r.size + off]? = some banks[i].bytes[off] := by
  induction banks generalizing i with
  | nil => cases hi
  | cons x xs ih =>
    obtain ⟨hx, hxs⟩ := List.forall_mem_cons.mp h
    obtain ⟨-, -, hlen⟩ := BankImage.fits_iff.mp hx
    rw [List.flatMap_cons]
    cases i with
    | zero =>
      have ho : off < x.bytes.length := ho
      rw [Nat.zero_mul, Nat.zero_add, List.getElem?_append_left ho]
      exact List.getElem?_eq_getElem ho
    | succ i =>
      have hoff : (i + 1) * r.size + off = x.bytes.length + (i * r.size + off) := by rw [hlen, Nat.succ_mul]; omega
      rw [hoff, List.getElem?_append_right (Nat.le_add_right ..), Nat.add_sub_cancel_left]
      exact ih hxs (Nat.lt_of_succ_lt_succ hi) ho

theorem read_bankData {r : Region} {banks : List BankImage} (h : ∀ x ∈ banks, x.fits r = true) {i off : Nat}
    (hi : i < banks.length) (ho : off < banks[i].bytes.length) :
    (bankData banks).read (i * r.size + off) = banks[i].bytes[off] := by
  obtain ⟨hlt, hget⟩ := List.getElem?_eq_some_iff.mp (getElem?_flatMap_bytes h hi ho)
  have hread := Memory.read_ofBytes 0 _ _ hlt
  rwa [Nat.zero_add, hget] at hread

/-- The image of ROM0 is read back below 0x4000, where nothing else is left. -/
theorem read_fixedROM (m : Memory) (bytes : List Byte) {off : Nat} (hoff : off < 0x4000) (h : off < bytes.length) :
    Memory.read (Memory.ofBytes 0 bytes ++ Memory.dropBelow 0x4000 m) (0 + off) = bytes[off] := by
  have hkeys : (Memory.dropBelow 0x4000 m).keysIn (fun k => decide (0x4000 ≤ k)) = true := by
    simp [Memory.keysIn, Memory.dropBelow]
  rw [Memory.read_append_left hkeys (decide_eq_false (by omega)), Memory.read_ofBytes 0 bytes off h]

/-! ## The initialisation commands, before the first step and once each -/

section Commands

variable {s : State}

theorem State.initFixedROM_ok (hs : s.started = false) (hl : s.loader.rom0 = false) {x : BankImage} (hx : x.fits .rom0 = true) :
    s.initFixedROM x = .ok { s with
      mem := Memory.ofBytes 0 x.bytes ++ Memory.dropBelow 0x4000 s.mem
      loader := { s.loader with rom0 := true } } := by
  simp [State.initFixedROM, hs, hl, hx]

theorem State.initFixedROM_error (hs : s.started = false) (hl : s.loader.rom0 = false) {x : BankImage} (hx : ¬ x.fits .rom0 = true) :
    s.initFixedROM x = s.loadError .invalidBankRange := by
  simp [State.initFixedROM, hs, hl, hx]

variable {count init : Nat} {banks : List BankImage} {e : HostError}

theorem State.initSwitchableROM_ok (hs : s.started = false) (hl : s.loader.rom1 = false) (h : checkBanks .rom1 count init banks = none) :
    s.initSwitchableROM count init banks =
      .ok { s with rom1 := ⟨count, init, init, bankData banks⟩, loader := { s.loader with rom1 := true } } := by
  simp [State.initSwitchableROM, hs, hl, h]

theorem State.initSwitchableROM_error (hs : s.started = false) (hl : s.loader.rom1 = false)
    (h : checkBanks .rom1 count init banks = some e) : s.initSwitchableROM count init banks = s.loadError e := by
  simp [State.initSwitchableROM, hs, hl, h]

theorem State.initExternalRAM_ok (hs : s.started = false) (hl : s.loader.eram = false) (h : checkBanks .eram count init banks = none)
    (persistent : Bool) : s.initExternalRAM count init persistent banks =
      .ok { s with
        eram := ⟨count, init, init, bankData banks⟩
        eramPersistent := persistent
        eramDirty := false
        loader := { s.loader with eram := true } } := by
  simp [State.initExternalRAM, hs, hl, h]

theorem State.initExternalRAM_error (hs : s.started = false) (hl : s.loader.eram = false)
    (h : checkBanks .eram count init banks = some e) (persistent : Bool) :
    s.initExternalRAM count init persistent banks = s.loadError e := by
  simp [State.initExternalRAM, hs, hl, h]

end Commands

end Sys2Proof.Machine

namespace Sys2Proof.Claims

open Sys2Proof.Machine

/-- A byte write changes memory and nothing else (R92). -/
theorem writesByte {s : State} {addr : Word} {v : Byte} {reply : HostReply} (h : reply = .ok (s.writeByte addr v)) :
    ∃ t, reply = .ok t ∧ RegsKept [] s t ∧ FlagsSpPcKept s t ∧ ControlKept s t ∧ HostKept s t ∧ Stores s t [(addr, v)] := by
  obtain ⟨hstores, hregs, hflags, hcontrol, hhost, -⟩ := Proofs.writeByte s addr v
  exact ⟨_, h, hregs, hflags, hcontrol, hhost, hstores⟩

/-! ## The checks of the loader -/

theorem BanksOk.fits {r : Region} {count init : Nat} {banks : List BankImage}
    (h : BanksOk r.base (r.base + r.size - 1) r.size count init banks) : ∀ x ∈ banks, x.fits r = true :=
  fun x hx => BankImage.fits_iff.mpr (h.fit x hx)

/-- The checks of R102 let exactly the banks of `BanksOk` pass. -/
theorem banksOk_iff {r : Region} {count init : Nat} {banks : List BankImage} :
    BanksOk r.base (r.base + r.size - 1) r.size count init banks ↔ checkBanks r count init banks = none := by
  have hcheck := bankCheck r count init banks
  generalize checkBanks r count init banks = found at hcheck
  cases hcheck with
  | passed hcount hfit hinit => exact iff_of_true ⟨fun x hx => BankImage.fits_iff.mp (hfit x hx), hcount, hinit⟩ rfl
  | miscounted hcount => exact iff_of_false (fun h => hcount h.counted) nofun
  | misfit _ hfit => exact iff_of_false (fun h => hfit h.fits) nofun
  | outOfRange _ _ hinit => exact iff_of_false (fun h => hinit h.initial) nofun

/-- A failed check is answered by its name, and the block is not started (R103, R423). -/
theorem loadRejected {r : Region} {count init : Nat} {banks : List BankImage} {e : HostError} (s : State)
    (h : BankCheck r count init banks (some e)) :
    LoadRejected r.base (r.base + r.size - 1) r.size count init banks s (s.loadError e) := by
  refine ⟨e, _, rfl, rfl, rfl, ?_⟩
  simp only [← BankImage.fits_iff]
  cases h with
  | miscounted hcount => exact ⟨fun h _ => absurd h hcount, fun _ _ => rfl, fun _ h => absurd h hcount⟩
  | misfit _ hfit => exact ⟨fun _ _ => rfl, fun h _ => absurd h hfit, fun h _ => absurd h hfit⟩
  | outOfRange _ _ hinit => exact ⟨fun _ h => absurd h hinit, fun _ h => absurd h hinit, fun _ _ => rfl⟩

theorem exists_bankCheck {r : Region} {count init : Nat} {banks : List BankImage}
    (h : ¬ BanksOk r.base (r.base + r.size - 1) r.size count init banks) :
    ∃ e, checkBanks r count init banks = some e ∧ BankCheck r count init banks (some e) := by
  obtain ⟨e, he⟩ := Option.ne_none_iff_exists'.mp (mt banksOk_iff.mpr h)
  exact ⟨e, he, he ▸ bankCheck r count init banks⟩

end Sys2Proof.Claims

/-! ## The statements -/

namespace Sys2Proof.Proofs

open Sys2Proof.Machine Sys2Proof.Claims

/-- Settles O23: the move is one byte write, and is refused for a line above 4 and for a bit that no port names. -/
theorem sendInterrupt : Obligations.SendInterrupt := by
  intro s n
  refine ⟨fun hn h => ?_, fun h => ?_⟩
  · have hbit : s.envNamesBit addrIF n = true := by
      obtain hdefault | hport := h
      · exact State.envNamesBit_default hdefault hn
      · exact State.envNamesBit_iff.mpr hport
    exact writesByte (State.sendInterrupt_ok hn hbit)
  · refine State.sendInterrupt_notAMove fun hn hbit => ?_
    obtain hlarge | hports := h
    · omega
    · obtain ⟨p, hp, haddr, hmask⟩ := State.envNamesBit_iff.mp hbit
      exact ne_true_of_eq_false (hports p hp haddr) hmask

/-- Settles O24: the ports of the default are LY and IF, and a write they allow is one byte write. -/
theorem environmentWrite : Obligations.EnvironmentWrite := by
  intro s addr v hdefault
  have hports := envWrites_default_allow addr (s.readByte addr) v
  rw [← hdefault] at hports
  exact ⟨fun h => writesByte (State.envWrite_ok (hports.mpr h)), fun h => State.envWrite_notAMove (mt hports.mp h)⟩

/-- Settles O26: each command is its checks, then its region; what it loaded reads back by the laws of images. -/
theorem initialisation : Obligations.Initialisation := by
  refine ⟨fun s x hs hl => ⟨fun h => ?_, fun h => ?_⟩, fun s count init banks hs hl => ⟨fun h => ?_, fun h => ?_⟩,
    fun s count init persistent banks hs hl => ⟨fun h => ?_, fun h => ?_⟩⟩
  · have hx : x.fits .rom0 = true := BankImage.fits_iff.mpr h
    obtain ⟨-, -, hlen⟩ := h
    exact ⟨_, State.initFixedROM_ok hs hl hx, rfl, fun off ho => read_fixedROM s.mem x.bytes (hlen ▸ ho) ho⟩
  · have hx : ¬ x.fits .rom0 = true := mt BankImage.fits_iff.mp h
    rw [State.initFixedROM_error hs hl hx]
    exact loadRejected (r := .rom0) s (.misfit rfl fun hfit => hx (hfit x (List.mem_singleton.mpr rfl)))
  · exact ⟨_, State.initSwitchableROM_ok hs hl (banksOk_iff.mp h), rfl, rfl, rfl,
      fun i hi off ho => read_bankData (BanksOk.fits (r := .rom1) h) hi ho⟩
  · obtain ⟨e, he, hcheck⟩ := exists_bankCheck (r := .rom1) h
    rw [State.initSwitchableROM_error hs hl he]
    exact loadRejected s hcheck
  · exact ⟨_, State.initExternalRAM_ok hs hl (banksOk_iff.mp h) persistent, rfl, rfl, rfl, rfl, rfl,
      fun i hi off ho => read_bankData (BanksOk.fits (r := .eram) h) hi ho⟩
  · obtain ⟨e, he, hcheck⟩ := exists_bankCheck (r := .eram) h
    rw [State.initExternalRAM_error hs hl he]
    exact loadRejected s hcheck

end Sys2Proof.Proofs
end
